-- ==== Sys2Proof/Word.lean ====
section
/-! DEFINITION. The word types of the engine (00_scope.md R10, R11, R12). -/

namespace Sys2Proof

/-- An 8-bit value: a data byte, the EOM trigger value. -/
abbrev U8 := BitVec 8

/-- A 16-bit value: a cportid, an attribute id, an attribute selector, a mailbox acknowledgment. -/
abbrev U16 := BitVec 16

/-- A 32-bit value, unsigned (`u32`) or two's complement (`i32`): I/O window addresses, register
words, lengths, attribute values and codes, statuses, return codes (R10, R12). The engine computes no
signed arithmetic (R19), so the two share one type. -/
abbrev U32 := BitVec 32

end Sys2Proof
end

