-- ==== Sys2Proof/Syntax.lean ====
section
/-! DEFINITION. The command set (30_encoding.md R112): one constructor per row of the opcode table, and
the command request that carries a command to the engine (R110). -/

namespace Sys2Proof

/-- The engine's commands (30_encoding.md R112). An operand is a field of the command word, except
SEND's length and data, which travel beside the word (R110, R115). -/
inductive Instr where
  /-- RESET_ONE id (41_reset_engine.md R170). -/
  | resetOne (id : U16)
  /-- RESET_ALL (41_reset_engine.md R180). -/
  | resetAll
  /-- INIT_CPORT id (42_rx_engine.md R203). -/
  | initCport (id : U16)
  /-- RECEIVE id, with B (blocking) and H (a handler is supplied) (42_rx_engine.md R205). -/
  | receive (blocking handler : Bool) (id : U16)
  /-- SEND id, with the request's len and data (43_tx_engine.md R240). -/
  | send (id : U16) (len : U32) (data : List U8)
  /-- RECV_CPORT (44_assignment.md R260). -/
  | recvCport
  /-- WAIT_LINK_UP (45_link_flow_control.md R280). -/
  | waitLinkUp
  /-- PREPARE_READINESS (45_link_flow_control.md R284). -/
  | prepareReadiness
  /-- PREPARE_HANDOFF (41_reset_engine.md R184). -/
  | prepareHandoff
  deriving DecidableEq, Repr

/-- A command request: one transaction on the command port, presented all at once (30_encoding.md R110). -/
structure Request where
  /-- The command word (R111). -/
  word : U32
  /-- The length operand, used by SEND only (R115). -/
  len : U32
  /-- The data operand, used by SEND only (R115). -/
  data : List U8
  deriving DecidableEq, Repr

end Sys2Proof
end

