-- ==== Sys2Proof/WellFormed.lean ====
section
/-! DEFINITION. Well-formed commands and requests (30_encoding.md R115). -/

namespace Sys2Proof

/-- SEND's `data` holds exactly `len` bytes (30_encoding.md R115); no other command has a check: an id
out of range is a legal command that completes with InvalidArgument (40_command_interface.md R142). -/
def Instr.wellFormed : Instr → Bool
  | .send _ len data => len.toNat == data.length
  | .resetOne _ | .resetAll | .initCport _ | .receive _ _ _ => true
  | .recvCport | .waitLinkUp | .prepareReadiness | .prepareHandoff => true

/-- A request whose opcode, bits 31:28, is SEND's is well formed only when `data` holds exactly `len`
bytes; every other request is well formed (30_encoding.md R115, R118). -/
def Request.wellFormed (r : Request) : Bool :=
  if r.word.extractLsb' 28 4 = 5#4 then r.len.toNat == r.data.length else true

end Sys2Proof
end

