-- ==== Sys2Proof/Decode.lean ====
section
/-! DEFINITION. Decoding a command request, rejecting illegal words by name, and the encoder
(30_encoding.md R110 to R118). -/

namespace Sys2Proof

/-! ### The fields of the command word (30_encoding.md R111, R114) -/

/-- OP, bits 31:28. -/
def opField (w : U32) : BitVec 4 := w.extractLsb' 28 4

/-- B, bit 27. -/
def blockingBit (w : U32) : Bool := w.getLsbD 27

/-- H, bit 26. -/
def handlerBit (w : U32) : Bool := w.getLsbD 26

/-- RSV, bits 25:16. -/
def rsvField (w : U32) : BitVec 10 := w.extractLsb' 16 10

/-- ID, bits 15:0. -/
def idField (w : U32) : U16 := w.extractLsb' 0 16

/-! ### Decoding -/

/-- Why a command word is illegal: the four cases of 30_encoding.md R116. -/
inductive Illegal where
  /-- OP is 0x0 or 0xA to 0xF. -/
  | reservedOpcode
  /-- RSV is not 0. -/
  | reservedBits
  /-- B or H is set and OP is not RECEIVE's. -/
  | strayFlag
  /-- ID is not 0 and the opcode takes none. -/
  | strayId
  deriving DecidableEq, Repr

/-- The opcodes of 30_encoding.md R112 that take an ID, with the command each one selects. -/
def decodeWithId (op : BitVec 4) (r : Request) : Option Instr :=
  if op = 1#4 then some (.resetOne (idField r.word))
  else if op = 3#4 then some (.initCport (idField r.word))
  else if op = 4#4 then some (.receive (blockingBit r.word) (handlerBit r.word) (idField r.word))
  else if op = 5#4 then some (.send (idField r.word) r.len r.data)
  else none

/-- The opcodes of 30_encoding.md R112 that take no ID, with the command each one selects. -/
def decodeWithoutId (op : BitVec 4) : Option Instr :=
  if op = 2#4 then some .resetAll
  else if op = 6#4 then some .recvCport
  else if op = 7#4 then some .waitLinkUp
  else if op = 8#4 then some .prepareReadiness
  else if op = 9#4 then some .prepareHandoff
  else none

/-- The command a request selects, or why its word is illegal (30_encoding.md R112, R114, R116). Total on
every request. A SEND whose data does not hold len bytes decodes to an ill-formed `Instr.send`
(`Instr.wellFormed`), which the command port refuses (R115). -/
def decode (r : Request) : Except Illegal Instr :=
  match decodeWithId (opField r.word) r, decodeWithoutId (opField r.word) with
  | none, none => .error .reservedOpcode
  | some i, _ =>
    if rsvField r.word ≠ 0 then .error .reservedBits
    else if opField r.word ≠ 4#4 && (blockingBit r.word || handlerBit r.word) then .error .strayFlag
    else .ok i
  | none, some i =>
    if rsvField r.word ≠ 0 then .error .reservedBits
    else if blockingBit r.word || handlerBit r.word then .error .strayFlag
    else if idField r.word ≠ 0 then .error .strayId
    else .ok i

/-! ### Encoding -/

/-- The opcode of a command (30_encoding.md R112). -/
def Instr.opcode : Instr → BitVec 4
  | .resetOne _ => 1#4
  | .resetAll => 2#4
  | .initCport _ => 3#4
  | .receive _ _ _ => 4#4
  | .send _ _ _ => 5#4
  | .recvCport => 6#4
  | .waitLinkUp => 7#4
  | .prepareReadiness => 8#4
  | .prepareHandoff => 9#4

/-- The B bit of a command's word (30_encoding.md R111). -/
def Instr.blocking : Instr → Bool
  | .receive b _ _ => b
  | .resetOne _ | .resetAll | .initCport _ | .send _ _ _ | .recvCport | .waitLinkUp
  | .prepareReadiness | .prepareHandoff => false

/-- The H bit of a command's word (30_encoding.md R111). -/
def Instr.handler : Instr → Bool
  | .receive _ h _ => h
  | .resetOne _ | .resetAll | .initCport _ | .send _ _ _ | .recvCport | .waitLinkUp
  | .prepareReadiness | .prepareHandoff => false

/-- The ID field of a command's word, 0 for a command that takes none (30_encoding.md R111). -/
def Instr.id : Instr → U16
  | .resetOne id | .initCport id | .receive _ _ id | .send id _ _ => id
  | .resetAll | .recvCport | .waitLinkUp | .prepareReadiness | .prepareHandoff => 0#16

/-- SEND's length operand, 0 for every other command (30_encoding.md R115). -/
def Instr.len : Instr → U32
  | .send _ len _ => len
  | .resetOne _ | .resetAll | .initCport _ | .receive _ _ _ | .recvCport | .waitLinkUp
  | .prepareReadiness | .prepareHandoff => 0#32

/-- SEND's data operand, empty for every other command (30_encoding.md R115). -/
def Instr.data : Instr → List U8
  | .send _ _ data => data
  | .resetOne _ | .resetAll | .initCport _ | .receive _ _ _ | .recvCport | .waitLinkUp
  | .prepareReadiness | .prepareHandoff => []

/-- The command word with the given fields, RSV = 0 (30_encoding.md R111). -/
def encodeWord (op : BitVec 4) (b h : Bool) (id : U16) : U32 :=
  op ++ BitVec.ofBool b ++ BitVec.ofBool h ++ 0#10 ++ id

/-- The request that carries a command (30_encoding.md R110 to R115). -/
def encode (i : Instr) : Request where
  word := encodeWord i.opcode i.blocking i.handler i.id
  len := i.len
  data := i.data

/-! ### The opcode table (30_encoding.md R113) -/

/-- A row of the opcode table: a word selects the row when `word & mask == pattern`. -/
structure OpcodeRow where
  mnemonic : String
  pattern : U32
  mask : U32
  deriving DecidableEq, Repr

/-- The nine rows of 30_encoding.md R113. -/
def opcodeTable : List OpcodeRow :=
  [ ⟨"RESET_ONE", 0x10000000, 0xFFFF0000⟩,
    ⟨"RESET_ALL", 0x20000000, 0xFFFFFFFF⟩,
    ⟨"INIT_CPORT", 0x30000000, 0xFFFF0000⟩,
    ⟨"RECEIVE", 0x40000000, 0xF3FF0000⟩,
    ⟨"SEND", 0x50000000, 0xFFFF0000⟩,
    ⟨"RECV_CPORT", 0x60000000, 0xFFFFFFFF⟩,
    ⟨"WAIT_LINK_UP", 0x70000000, 0xFFFFFFFF⟩,
    ⟨"PREPARE_READINESS", 0x80000000, 0xFFFFFFFF⟩,
    ⟨"PREPARE_HANDOFF", 0x90000000, 0xFFFFFFFF⟩ ]

/-- Whether a word selects a row (30_encoding.md R113). -/
def OpcodeRow.selects (row : OpcodeRow) (w : U32) : Bool := w &&& row.mask == row.pattern

/-- The mnemonic of a command (30_encoding.md R112). -/
def Instr.mnemonic : Instr → String
  | .resetOne _ => "RESET_ONE"
  | .resetAll => "RESET_ALL"
  | .initCport _ => "INIT_CPORT"
  | .receive _ _ _ => "RECEIVE"
  | .send _ _ _ => "SEND"
  | .recvCport => "RECV_CPORT"
  | .waitLinkUp => "WAIT_LINK_UP"
  | .prepareReadiness => "PREPARE_READINESS"
  | .prepareHandoff => "PREPARE_HANDOFF"

/-! ### The spec's text form of a command (30_encoding.md R121) -/

/-- The suffix that RECEIVE's B and H bits give its mnemonic (30_encoding.md R121). -/
def receiveSuffix (b h : Bool) : String :=
  match b, h with
  | false, false => ""
  | true, false => ".B"
  | false, true => ".H"
  | true, true => ".BH"

/-- A list of data bytes as the spec writes it, each byte in decimal (30_encoding.md R121). -/
def dataText (data : List U8) : String :=
  "[" ++ String.intercalate ", " (data.map fun b => toString b.toNat) ++ "]"

/-- A command as one line of the spec's text form, ids in decimal (30_encoding.md R121). -/
def Instr.text : Instr → String
  | .receive b h id => "RECEIVE" ++ receiveSuffix b h ++ " " ++ toString id.toNat
  | .send id _ data => "SEND " ++ toString id.toNat ++ ", " ++ dataText data
  | .resetOne id => "RESET_ONE " ++ toString id.toNat
  | .initCport id => "INIT_CPORT " ++ toString id.toNat
  | .resetAll => "RESET_ALL"
  | .recvCport => "RECV_CPORT"
  | .waitLinkUp => "WAIT_LINK_UP"
  | .prepareReadiness => "PREPARE_READINESS"
  | .prepareHandoff => "PREPARE_HANDOFF"

/-! ### A request from the bits of the opcode table -/

/-- The request whose bits are `w`, read as the opcode table numbers them: the command word in bits 31:0,
then `len` in bits 63:32 and the data bytes from bit 64 on. Bits from `nbits` on are 0, so a row of 32
bits has len = 0 and no data (DESIGN CHOICE: the spec gives the operands beside the word no bit
positions, log entry 6). -/
def requestOfBits (nbits w : Nat) : Request :=
  let v := w % 2 ^ nbits
  { word := BitVec.ofNat 32 v
    len := BitVec.ofNat 32 (v / 2 ^ 32)
    data := (List.range ((nbits - 64) / 8)).map fun n => BitVec.ofNat 8 (v / 2 ^ (64 + 8 * n)) }

/-- The instruction the decoder reads from the bits `w` of an opcode-table row of `nbits` bits. -/
def decodeTableWord (nbits w : Nat) : Option Instr :=
  match decode (requestOfBits nbits w) with
  | .ok i => some i
  | .error _ => none

end Sys2Proof
end

