-- ==== Sys2Proof/Config.lean ====
section
/-! DEFINITION. The implementation parameters (00_scope.md R8) and the environment's free answers (R16). -/

namespace Sys2Proof

/-- Every parameter of 00_scope.md R8. The source fixes none of them: a theorem about every State is a
theorem about every configuration, since State carries one. The check `wf(cfg)` of R9 is
`Config.wf` in Machine/Layout.lean. -/
structure Config where
  /-- CPORT_MAX: valid ids are those below it. -/
  cportMax : Nat
  /-- TABLE_LEN: the length of the built CPort table. -/
  tableLen : Nat
  /-- TX_BUF_SIZE, in bytes. -/
  txBufSize : Nat
  /-- RX_BUF_SIZE, in bytes. -/
  rxBufSize : Nat
  /-- TX_BUF_BASE. -/
  txBufBase : U32
  /-- TX_BUF_STRIDE, in bytes. -/
  txBufStride : Nat
  /-- RX_BUF_BASE. -/
  rxBufBase : U32
  /-- RX_BUF_STRIDE, in bytes. -/
  rxBufStride : Nat
  /-- TX_EOM_OFFSET: where the EOM trigger lies from tx_buf(id). -/
  txEomOffset : Nat
  /-- EOM_TRIGGER_VALUE. -/
  eomTriggerValue : U8
  /-- REG_TXQE_BASE. -/
  regTxqeBase : U32
  /-- REG_TX_RESET_BASE. -/
  regTxResetBase : U32
  /-- REG_RX_RESET_BASE. -/
  regRxResetBase : U32
  /-- REG_RX_BUF_ADDR_BASE. -/
  regRxBufAddrBase : U32
  /-- REG_RX_PAUSE_BASE. -/
  regRxPauseBase : U32
  /-- REG_EOM_STATUS_BASE. -/
  regEomStatusBase : U32
  /-- REG_EOT_STATUS_BASE. -/
  regEotStatusBase : U32
  /-- REG_RX_XFER_SIZE_BASE. -/
  regRxXferSizeBase : U32
  /-- REG_E2EFC_EN0. -/
  regE2efcEn0 : U32
  /-- REG_E2EFC_EN1. -/
  regE2efcEn1 : U32
  /-- TX_RESET_PATTERN, not zero. -/
  txResetPattern : BitVec 3
  /-- RX_RESET_PATTERN, not zero. -/
  rxResetPattern : BitVec 3
  /-- RX_PAUSE_VALUE. -/
  rxPauseValue : U32
  /-- ATTR_CONNECTION_STATE. -/
  attrConnectionState : U16
  /-- ATTR_LOCAL_BUFFER_SPACE. -/
  attrLocalBufferSpace : U16
  /-- ATTR_PEER_BUFFER_SPACE. -/
  attrPeerBufferSpace : U16
  /-- ATTR_CREDITS_TO_SEND. -/
  attrCreditsToSend : U16
  /-- ATTR_POWERSTATE. -/
  attrPowerstate : U16
  /-- POWERSTATE_SELECTOR; the spec's value is 0 (D17). -/
  powerstateSelector : U16 := 0
  /-- LINK_UP_VALUE. -/
  linkUpValue : U32
  /-- ACK_STATUS_CHECKED; the spec's default is true (D23). -/
  ackStatusChecked : Bool := true
  deriving DecidableEq, Repr

/-- The spec's identity string (00_scope.md R2). -/
def Config.identity : String := "cport-engine/ningshao1945-bootrom/spec-v7"

/-- The illustrative configuration EX of 95_test_vectors.md 0.1. DESIGN CHOICE, unsafe: the spec leaves
every value OPEN, and State.reset needs one; no statement about every state rests on it (log entry 2). -/
def Config.illustrative : Config where
  cportMax := 4
  tableLen := 4
  txBufSize := 4
  rxBufSize := 16
  txBufBase := 0x10000
  txBufStride := 0x100
  rxBufBase := 0x20000
  rxBufStride := 0x100
  txEomOffset := 0x80
  eomTriggerValue := 0x01
  regTxqeBase := 0x000
  regTxResetBase := 0x100
  regRxResetBase := 0x200
  regRxBufAddrBase := 0x300
  regRxPauseBase := 0x400
  regEomStatusBase := 0x500
  regEotStatusBase := 0x600
  regRxXferSizeBase := 0x700
  regE2efcEn0 := 0x800
  regE2efcEn1 := 0x804
  txResetPattern := 7
  rxResetPattern := 1
  rxPauseValue := 0x10
  attrConnectionState := 0xA000
  attrLocalBufferSpace := 0xA001
  attrPeerBufferSpace := 0xA002
  attrCreditsToSend := 0xA003
  attrPowerstate := 0xA100
  linkUpValue := 0x3

/-! The environment's answers where State lists none (00_scope.md R16: "A model must treat each answer as
a free draw"). Each is a constant without a body, applied to the count of draws so far, so nothing can be
proved of its value (log entry 4). -/

/-- The free answer of an 8-bit read. -/
opaque Config.freeByte : Nat → U8

/-- The free value of a 32-bit read, an attribute read or a mailbox read. -/
opaque Config.freeWord : Nat → U32

/-- The free protocol result code of an attribute transaction. -/
opaque Config.freeCode : Nat → U32

/-- The free transport or mailbox status, or handler return code. -/
opaque Config.freeStatus : Nat → U32

end Sys2Proof
end

