-- ==== Sys2Proof/Machine/State.lean ====
section
/-! DEFINITION. The engine's state (10_state.md), its transactions (00_scope.md R14), the reasons a step can
stop, and the state after reset (R48). -/

namespace Sys2Proof.Machine

open Sys2Proof

/-- PHASE, the sequencing register (10_state.md R36). -/
inductive Phase where
  | idle
  | rsWaitTxq
  | rsTxAssert
  /-- RS_ATTR_0 to RS_ATTR_3. -/
  | rsAttr (j : Fin 4)
  | rsRxAssert
  | rsTxDeassert
  | rsRxDeassert
  | armAddr
  | armPause
  | rxPollEom
  | rxPollEot
  | rxCount
  | rxClear
  | rxHandler
  | txCopy
  | txEom
  | mbRead
  | mbAck
  | lkPoll
  | fcEn0
  | fcEn1
  deriving DecidableEq, Repr

/-- The result kinds (30_encoding.md R120). Their codes are `Kind.code` in Machine/Flags.lean. -/
inductive Kind where
  | ok
  | invalidArgument
  | ioError
  | receiveError
  | overflow
  | mailboxError
  | illegalCommand
  deriving DecidableEq, Repr

/-- The ghost lifecycle of a CPort (10_state.md R45). It changes no engine behaviour. -/
inductive Lifecycle where
  /-- Not armed since the engine reset, and not reset since then. -/
  | unarmed
  /-- An arm sequence completed. -/
  | armed
  /-- A RECEIVE is between its EOM detection and its re-arm. -/
  | dispatched
  /-- A RECEIVE returned ReceiveError or Overflow. -/
  | failedRx
  /-- A reset sequence of this id stopped at a failed attribute write. -/
  | halfReset
  /-- A reset sequence of this id completed. -/
  | resetDone
  deriving DecidableEq, Repr

/-- A downstream transaction with its arguments (00_scope.md R14). -/
inductive Txn where
  /-- `MemRead(a, 1)`; the engine never issues it (20_memory.md R71). -/
  | memRead8 (addr : U32)
  /-- `MemRead(a, 4)`. -/
  | memRead32 (addr : U32)
  /-- `MemWrite(a, 1, v)`. -/
  | memWrite8 (addr : U32) (v : U8)
  /-- `MemWrite(a, 4, v)`. -/
  | memWrite32 (addr : U32) (v : U32)
  /-- `AttrWrite(attr, value, sel, peer)`. -/
  | attrWrite (attr : U16) (value : U32) (sel : U16) (peer : Bool)
  /-- `AttrRead(attr, sel, peer)`. -/
  | attrRead (attr : U16) (sel : U16) (peer : Bool)
  /-- `MbxRead()`. -/
  | mbxRead
  /-- `MbxAck(v16)`. -/
  | mbxAck (v : U16)
  /-- `HandlerCall(id, buf, len)`. -/
  | handlerCall (id : U16) (buf : U32) (len : U32)
  deriving DecidableEq, Repr

/-- The environment's answer to a transaction (00_scope.md R14). -/
inductive Answer where
  /-- The answer of a write: none. -/
  | nothing
  /-- The answer of an 8-bit read. -/
  | byte (v : U8)
  /-- The answer of a 32-bit read. -/
  | word (v : U32)
  /-- The answer of an attribute write: result code and transport status. -/
  | attrWritten (rc st : U32)
  /-- The answer of an attribute read: value, result code and transport status. -/
  | attrValue (v rc st : U32)
  /-- The answer of a mailbox read: value and status. -/
  | mbxValue (v st : U32)
  /-- The answer of a mailbox acknowledgment: status. -/
  | mbxStatus (st : U32)
  /-- The handler's return code. -/
  | handlerReturn (rc : U32)
  /-- No answer: the environment never answers, or the handler never returns. The engine stays in its
  phase for ever, unless a reset event comes (93_implementation_defined.md I24). -/
  | never
  deriving DecidableEq, Repr

/-- A record of the event history: a transaction, its arguments and its answer (10_state.md R47). -/
structure Event where
  txn : Txn
  answer : Answer
  deriving DecidableEq, Repr

/-- The engine registers that hold no value after reset (10_state.md R48). -/
inductive RegName where
  | cmdOp
  | cmdId
  | cmdBlocking
  | cmdHandler
  | cmdLen
  | cmdData
  | k
  | rsId
  | rxEomw
  | rxEotw
  | rxCount
  | rxRc
  | mbValue
  | lastAttrRc
  | lastAttrSt
  deriving DecidableEq, Repr

/-- The model faults (40_command_interface.md R146). -/
inductive Fault where
  /-- A register that holds no value was read (10_state.md R48: "A read of one of them must be a model
  fault"). Raised by `readReg`. Safe: the model stops. No run reaches it (R146). -/
  | noValue (r : RegName)
  deriving DecidableEq, Repr

/-- The refusals (40_command_interface.md R146, 93_implementation_defined.md I21 to I23). -/
inductive Refusal where
  /-- An instruction without a meaning yet: none is left. Raised by nothing. Safe. -/
  | notModelled (mnemonic : String)
  /-- PHASE = IDLE and no request is presented: the engine has no step, the end of the run
  (40_command_interface.md R147, R149). Raised by `engineStep` and `stepPhase`. Safe. -/
  | quiescent
  /-- A SEND request whose data does not hold exactly len bytes is refused at the command port
  (30_encoding.md R115, I21). Raised by `execSend` and `acceptIllegal`. Safe. -/
  | malformedRequest
  /-- An answer that has not the shape of 00_scope.md R14 (R146, I22). Raised by the transactions of
  Machine/Ops.lean that take an answer. Safe. -/
  | answerShape
  /-- RS_RX_DEASSERT or ARM_PAUSE with a CMD_OP for which R177 and R201 name no successor. No run
  reaches it. Raised by `rsRxDeassert` and `armPause`. Safe. -/
  | foreignPhase
  /-- A configuration that breaks 00_scope.md R9 builds no engine (R334, I23). Raised by
  `State.build`. Safe. -/
  | badConfiguration
  deriving DecidableEq, Repr

/-- The engine's state (10_state.md), with the configuration and the model's inputs. -/
structure State where
  /-- The configuration: the CPort table and every parameter (00_scope.md R8, 10_state.md R31). No step
  changes it. -/
  cfg : Config
  /-- CMD_OP (R34). -/
  cmdOp : Option (BitVec 4)
  /-- CMD_ID (R34). -/
  cmdId : Option U16
  /-- CMD_BLOCKING (R34). -/
  cmdBlocking : Option Bool
  /-- CMD_HANDLER (R34). -/
  cmdHandler : Option Bool
  /-- CMD_LEN (R34). -/
  cmdLen : Option U32
  /-- CMD_DATA (R34). -/
  cmdData : Option (List U8)
  /-- PHASE (R36). -/
  phase : Phase
  /-- K, the loop index (R38). -/
  k : Option U32
  /-- RS_ID, the id the reset sequence works on (R39). -/
  rsId : Option U16
  /-- RX_EOMW (R40). -/
  rxEomw : Option U32
  /-- RX_EOTW (R40). -/
  rxEotw : Option U32
  /-- RX_COUNT (R40). -/
  rxCount : Option U32
  /-- RX_RC (R40). -/
  rxRc : Option U32
  /-- MB_VALUE (R40). -/
  mbValue : Option U32
  /-- LAST_ATTR_RC (R40). -/
  lastAttrRc : Option U32
  /-- LAST_ATTR_ST (R40). -/
  lastAttrSt : Option U32
  /-- RSP_KIND (R41). -/
  rspKind : BitVec 4
  /-- RSP_VALUE (R41). -/
  rspValue : U32
  /-- RSP_ATTR_RC (R41). -/
  rspAttrRc : U32
  /-- RSP_ATTR_STATUS (R41). -/
  rspAttrStatus : U32
  /-- RSP_FAIL_ID (R41). -/
  rspFailId : U16
  /-- DONE (R42). -/
  done : Bool
  /-- The ghost lifecycle of each CPort id below CPORT_MAX, by position (R45). -/
  life : List Lifecycle
  /-- The event history, oldest first (R47). -/
  history : List Event
  /-- Input: the requests the host presents, in order; the head is on the command port now
  (30_encoding.md R110, 40_command_interface.md R140). -/
  requests : List Request
  /-- Input: the environment's answers to the coming transactions, in order (00_scope.md R16). -/
  answers : List Answer
  /-- How many free answers were drawn because `answers` was empty. -/
  draws : Nat
  /-- Input: the level of the reset input at the coming steps; the end of the list is "not asserted"
  (70_reset_and_hazards.md R330, R331). -/
  resetIn : List Bool
  deriving DecidableEq, Repr

/-- The engine just after a reset event, in the configuration `c` and with no input pending
(10_state.md R48, 70_reset_and_hazards.md R330). `none` is the spec's "no value". -/
def State.resetWith (c : Config) : State where
  cfg := c
  cmdOp := none
  cmdId := none
  cmdBlocking := none
  cmdHandler := none
  cmdLen := none
  cmdData := none
  phase := .idle
  k := none
  rsId := none
  rxEomw := none
  rxEotw := none
  rxCount := none
  rxRc := none
  mbValue := none
  lastAttrRc := none
  lastAttrSt := none
  rspKind := 0
  rspValue := 0
  rspAttrRc := 0
  rspAttrStatus := 0
  rspFailId := 0
  done := false
  life := List.replicate c.cportMax .unarmed
  history := []
  requests := []
  answers := []
  draws := 0
  resetIn := []

/-- The state after reset, in the illustrative configuration (log entry 2). -/
def State.reset : State := State.resetWith Config.illustrative

end Sys2Proof.Machine
end

