-- ==== Sys2Proof/Machine/Flags.lean ====
section
/-! DEFINITION. The status flags, the result-kind codes and the host's register view (10_state.md R41 to R43,
30_encoding.md R119, R120). The engine has no condition codes and no arithmetic flags (R43). -/

namespace Sys2Proof.Machine

open Sys2Proof

/-- The code of a result kind in RSP_KIND (30_encoding.md R120). -/
def Kind.code : Kind → BitVec 4
  | .ok => 0#4
  | .invalidArgument => 1#4
  | .ioError => 2#4
  | .receiveError => 3#4
  | .overflow => 4#4
  | .mailboxError => 5#4
  | .illegalCommand => 6#4

/-- BUSY is 1 exactly when PHASE ≠ IDLE; it is no separate storage (10_state.md R42). -/
def State.busy (s : State) : Bool := s.phase != .idle

/-- The STATUS word: bit 0 = BUSY, bit 1 = DONE, bits 11:8 = RSP_KIND, all other bits 0
(30_encoding.md R119). While DONE = 0 the RSP_KIND bits show the held value, which I19 makes `any value` to a
host (DESIGN CHOICE, log entry 17). -/
def State.statusWord (s : State) : U32 :=
  0#20 ++ s.rspKind ++ 0#6 ++ BitVec.ofBool s.done ++ BitVec.ofBool s.busy

/-- What the host reads at an offset of the register view; `none` where the view has no register
(30_encoding.md R119). A host read is no engine step and changes nothing (log entry 15). While DONE = 0 the
response fields show what the engine holds, the last response or the reset zeros, where
93_implementation_defined.md I19 says `any value` to a host (DESIGN CHOICE, log entry 17). -/
def State.hostRead (s : State) (offset : Nat) : Option U32 :=
  match offset with
  | 0x00 => some s.statusWord
  | 0x04 => some s.rspValue
  | 0x08 => some s.rspAttrRc
  | 0x0C => some s.rspAttrStatus
  | 0x10 => some (s.rspFailId.setWidth 32)
  | _ => none

/-- A host write to a register of the view has no effect: every one is read-only (30_encoding.md R119). -/
def State.hostWrite (s : State) (_offset : Nat) (_value : U32) : State := s

end Sys2Proof.Machine
end

