-- ==== Sys2Proof/Machine/Operands.lean ====
section
/-! DEFINITION. Operand checks, the CPort table, and every address and mask the engine forms
(10_state.md R31 to R33, 20_memory.md R77, R80, 30_encoding.md R114, 00_scope.md R19). -/

namespace Sys2Proof

/-! ### The CPort table (10_state.md R31, R33) -/

/-- `cfg.tx_buf(id) = TX_BUF_BASE +32 id * TX_BUF_STRIDE` (10_state.md R31). -/
def Config.txBuf (c : Config) (id : U16) : U32 :=
  c.txBufBase + BitVec.ofNat 32 (id.toNat * c.txBufStride)

/-- `cfg.rx_buf(id) = RX_BUF_BASE +32 id * RX_BUF_STRIDE` (10_state.md R31). -/
def Config.rxBuf (c : Config) (id : U16) : U32 :=
  c.rxBufBase + BitVec.ofNat 32 (id.toNat * c.rxBufStride)

/-- `cfg.tx_eom(id) = cfg.tx_buf(id) +32 TX_EOM_OFFSET` (10_state.md R31). -/
def Config.txEom (c : Config) (id : U16) : U32 :=
  c.txBuf id + BitVec.ofNat 32 c.txEomOffset

/-- An entry of the CPort table: its own index and its two buffer addresses (10_state.md R31). -/
structure CPort where
  id : Nat
  txBuf : U32
  rxBuf : U32
  deriving DecidableEq, Repr

/-- `lookup(id)`: the table entry of an id below CPORT_MAX, "not found" otherwise (10_state.md R33). -/
def Config.lookup (c : Config) (id : U32) : Option CPort :=
  if id.toNat < c.cportMax then
    some { id := id.toNat, txBuf := c.txBuf (id.setWidth 16), rxBuf := c.rxBuf (id.setWidth 16) }
  else none

/-- `zext_32(CMD_ID) <u CPORT_MAX` (30_encoding.md R114, 40_command_interface.md R142). -/
def Config.idInRange (c : Config) (id : U16) : Bool := decide (id.toNat < c.cportMax)

/-! ### Register addresses (20_memory.md R77) -/

/-- `txqe_addr(id)`: the TX-queue-empty status word. -/
def Config.txqeAddr (c : Config) (id : U16) : U32 :=
  c.regTxqeBase + BitVec.ofNat 32 (4 * (id.toNat / 32))

/-- `tx_reset_addr(id)`: the transmit reset register. -/
def Config.txResetAddr (c : Config) (id : U16) : U32 :=
  c.regTxResetBase + BitVec.ofNat 32 (4 * id.toNat)

/-- `rx_reset_addr(id)`: the receive reset register. -/
def Config.rxResetAddr (c : Config) (id : U16) : U32 :=
  c.regRxResetBase + BitVec.ofNat 32 (4 * id.toNat)

/-- `rx_buf_addr_reg(id)`: the receive-buffer address register. -/
def Config.rxBufAddrReg (c : Config) (id : U16) : U32 :=
  c.regRxBufAddrBase + BitVec.ofNat 32 (4 * id.toNat)

/-- `rx_pause_reg(id)`: the pause/restart size register. -/
def Config.rxPauseReg (c : Config) (id : U16) : U32 :=
  c.regRxPauseBase + BitVec.ofNat 32 (4 * id.toNat)

/-- `eom_word_addr(id)`: the EOM status word. -/
def Config.eomWordAddr (c : Config) (id : U16) : U32 :=
  c.regEomStatusBase + BitVec.ofNat 32 (4 * (id.toNat / 16))

/-- `eot_word_addr(id)`: the EOT status word. -/
def Config.eotWordAddr (c : Config) (id : U16) : U32 :=
  c.regEotStatusBase + BitVec.ofNat 32 (4 * (id.toNat / 32))

/-- `rx_xfer_size_reg(id)`: the transfer-size register. -/
def Config.rxXferSizeReg (c : Config) (id : U16) : U32 :=
  c.regRxXferSizeBase + BitVec.ofNat 32 (4 * id.toNat)

/-! ### Status-bit masks (20_memory.md R77) -/

/-- `txqe_mask(id) = 1 << (id mod 32)`. -/
def txqeMask (id : U16) : U32 := 1#32 <<< (id.toNat % 32)

/-- `eom_normal_mask(id) = 1 << (2*(id mod 16))`. -/
def eomNormalMask (id : U16) : U32 := 1#32 <<< (2 * (id.toNat % 16))

/-- `eom_error_mask(id) = 1 << (2*(id mod 16) + 1)`. -/
def eomErrorMask (id : U16) : U32 := 1#32 <<< (2 * (id.toNat % 16) + 1)

/-- `eot_mask(id) = 1 << (id mod 32)`. -/
def eotMask (id : U16) : U32 := 1#32 <<< (id.toNat % 32)

/-- The bit test `(w & mask) ≠ 0` (00_scope.md R19). -/
def bitSet (w mask : U32) : Bool := w &&& mask != 0#32

/-! ### Reset attributes and strobe values (41_reset_engine.md R172, R173, R175) -/

/-- `reset_attr(j)`: connection-state, local-buffer-space, peer-buffer-space, credits-to-send, in that
order (41_reset_engine.md R173). -/
def Config.resetAttr (c : Config) (j : Fin 4) : U16 :=
  match j with
  | 0 => c.attrConnectionState
  | 1 => c.attrLocalBufferSpace
  | 2 => c.attrPeerBufferSpace
  | 3 => c.attrCreditsToSend

/-- `zext_32(TX_RESET_PATTERN)`, in bits 2:0 (41_reset_engine.md R172). -/
def Config.txResetWord (c : Config) : U32 := c.txResetPattern.setWidth 32

/-- `zext_32(RX_RESET_PATTERN)` (41_reset_engine.md R175). -/
def Config.rxResetWord (c : Config) : U32 := c.rxResetPattern.setWidth 32

/-- The bit of the E2EFC enable registers that belongs to a CPort: which register, and which bit of it
(20_memory.md R80). -/
def Config.e2efcBit (c : Config) (id : Nat) : U32 × Nat :=
  if id < 32 then (c.regE2efcEn0, id) else (c.regE2efcEn1, id - 32)

end Sys2Proof
end

