-- ==== Sys2Proof/Machine/Ops.lean ====
section
/-! DEFINITION. The shared operations: reading a register, the downstream transactions, the latching of a
request, and `complete`, the one way a command ends (00_scope.md R14, 40_command_interface.md R141, R150).
The engine has no exceptions (00_scope.md R15): `complete` with an error kind stands where another machine
takes one, and after it the engine is IDLE, so there is nothing to return from (60_exceptions.md R300,
R305). -/

namespace Sys2Proof.Machine

open Sys2Proof

/-- The outcome of a part of a step. -/
abbrev Res (α : Type) := Host.Outcome α Fault Refusal

/-- Go on with the result of the part before; a fault or a refusal ends the step. -/
def andThen {α β : Type} (x : Res α) (f : α → Res β) : Res β :=
  match x with
  | .next a => f a
  | .fault r => .fault r
  | .refused r => .refused r

/-- Read a register; one that holds no value is a model fault, as the spec asks (10_state.md R48: "A read of
one of them must be a model fault"; 40_command_interface.md R146, 93_implementation_defined.md I17). No run
from reset makes such a read (10_state.md R40). -/
def readReg {α : Type} (name : RegName) (value : Option α) : Res α :=
  match value with
  | some v => .next v
  | none => .fault (.noValue name)

/-! ### Downstream transactions (00_scope.md R14) -/

/-- The answer of a transaction when the environment's inputs list none: a free draw (00_scope.md R16). -/
def Txn.freeAnswer (t : Txn) (n : Nat) : Answer :=
  match t with
  | .memRead8 _ => .byte (Config.freeByte n)
  | .memRead32 _ => .word (Config.freeWord n)
  | .memWrite8 _ _ | .memWrite32 _ _ => .nothing
  | .attrWrite _ _ _ _ => .attrWritten (Config.freeCode n) (Config.freeStatus n)
  | .attrRead _ _ _ => .attrValue (Config.freeWord n) (Config.freeCode n) (Config.freeStatus n)
  | .mbxRead => .mbxValue (Config.freeWord n) (Config.freeStatus n)
  | .mbxAck _ => .mbxStatus (Config.freeStatus n)
  | .handlerCall _ _ _ => .handlerReturn (Config.freeStatus n)

/-- The environment's answer to the transaction `t`, issued now: the next listed one, or a free draw. -/
def State.answerTo (s : State) (t : Txn) : Answer :=
  match s.answers with
  | [] => t.freeAnswer s.draws
  | a :: _ => a

/-- The engine has performed a write: its record is appended to the event history (10_state.md R47). The
answer of a write is none (00_scope.md R14). -/
def State.wrote (s : State) (t : Txn) : State :=
  { s with history := s.history ++ [⟨t, .nothing⟩] }

/-- The engine has performed a transaction that takes an answer: its record is appended to the event
history and the answer is used up. -/
def State.asked (s : State) (t : Txn) : State :=
  { s with
    history := s.history ++ [⟨t, s.answerTo t⟩]
    answers := s.answers.tail
    draws := if s.answers.isEmpty then s.draws + 1 else s.draws }

/-- The engine has performed an attribute transaction that answered the result code `rc` and the transport
status `st`, which go to LAST_ATTR_RC and LAST_ATTR_ST and are never merged (10_state.md R40,
20_memory.md R73). -/
def State.attrAsked (s : State) (t : Txn) (rc st : U32) : State :=
  { s.asked t with lastAttrRc := some rc, lastAttrSt := some st }

/-- `MemWrite(a, 4, v)`. It has no failure answer (60_exceptions.md R302). -/
def memWrite32 (a v : U32) (s : State) : State := s.wrote (.memWrite32 a v)

/-- `MemWrite(a, 1, v)`. It has no failure answer (60_exceptions.md R302). -/
def memWrite8 (a : U32) (v : U8) (s : State) : State := s.wrote (.memWrite8 a v)

/-- Issue the transaction `t` and go on with its answer. One that is never answered keeps the engine in its
phase: the step changes nothing, and so does every later one (93_implementation_defined.md I24: "the run never
ends, and a model must keep that run"; 20_memory.md R75, R85). Its record, which holds an answer, is not
appended (DESIGN CHOICE, log entry 4). -/
def ask (t : Txn) (s : State) (use : Answer → Res State) : Res State :=
  match s.answerTo t with
  | .never => .next s
  | a => use a

/-- `MemRead(a, 4)`: go on with the word read. Here and below an answer of another shape is refused
(40_command_interface.md R146). -/
def memRead32 (a : U32) (s : State) (use : U32 → State → Res State) : Res State :=
  ask (.memRead32 a) s fun
    | .word v => use v (s.asked (.memRead32 a))
    | _ => .refused .answerShape

/-- `AttrWrite(attr, value, sel, peer)`: go on with the transport status; both answers go to LAST_ATTR_RC
and LAST_ATTR_ST (20_memory.md R72, R73). -/
def attrWrite (attr : U16) (value : U32) (sel : U16) (peer : Bool) (s : State)
    (use : U32 → State → Res State) : Res State :=
  ask (.attrWrite attr value sel peer) s fun
    | .attrWritten rc st => use st (s.attrAsked (.attrWrite attr value sel peer) rc st)
    | _ => .refused .answerShape

/-- `AttrRead(attr, sel, peer)`: go on with value and transport status; the result code and the status go to
LAST_ATTR_RC and LAST_ATTR_ST (20_memory.md R72, R73). -/
def attrRead (attr sel : U16) (peer : Bool) (s : State) (use : U32 → U32 → State → Res State) :
    Res State :=
  ask (.attrRead attr sel peer) s fun
    | .attrValue v rc st => use v st (s.attrAsked (.attrRead attr sel peer) rc st)
    | _ => .refused .answerShape

/-- `MbxRead()`: go on with value and status (20_memory.md R74). -/
def mbxRead (s : State) (use : U32 → U32 → State → Res State) : Res State :=
  ask .mbxRead s fun
    | .mbxValue v st => use v st (s.asked .mbxRead)
    | _ => .refused .answerShape

/-- `MbxAck(v16)`: go on with the status (20_memory.md R74). -/
def mbxAck (v : U16) (s : State) (use : U32 → State → Res State) : Res State :=
  ask (.mbxAck v) s fun
    | .mbxStatus st => use st (s.asked (.mbxAck v))
    | _ => .refused .answerShape

/-- `HandlerCall(id, buf, len)`: go on with the handler's return code (20_memory.md R75). A handler that
never returns keeps the engine in RX_HANDLER (70_reset_and_hazards.md R343). -/
def handlerCall (id : U16) (buf len : U32) (s : State) (use : U32 → State → Res State) : Res State :=
  ask (.handlerCall id buf len) s fun
    | .handlerReturn rc => use rc (s.asked (.handlerCall id buf len))
    | _ => .refused .answerShape

/-- The phases whose transaction takes an answer (10_state.md R36, 00_scope.md R14). -/
def Phase.asks : Phase → Bool
  | .rsWaitTxq | .rsAttr _ | .rxPollEom | .rxPollEot | .rxCount | .rxHandler | .mbRead | .mbAck
  | .lkPoll => true
  | .idle | .rsTxAssert | .rsRxAssert | .rsTxDeassert | .rsRxDeassert | .armAddr | .armPause | .rxClear
  | .txCopy | .txEom | .fcEn0 | .fcEn1 => false

/-- The transaction of PHASE is one that is never answered (93_implementation_defined.md I24). -/
def State.unanswered (s : State) : Bool := s.phase.asks && s.answers.head? == some .never

/-! ### The ghost lifecycle (10_state.md R45) -/

/-- The ghost lifecycle of a CPort; `UNARMED` for an id the list does not hold. -/
def State.lifeOf (s : State) (id : U16) : Lifecycle := s.life.getD id.toNat .unarmed

/-- Move the ghost lifecycle of a CPort. -/
def State.setLife (s : State) (id : U16) (v : Lifecycle) : State :=
  { s with life := s.life.set id.toNat v }

/-! ### Acceptance and completion -/

/-- The registers the accept step writes from the request (40_command_interface.md R141). -/
def State.latch (s : State) (r : Request) : State :=
  { s with
    done := false
    cmdOp := some (opField r.word)
    cmdBlocking := some (blockingBit r.word)
    cmdHandler := some (handlerBit r.word)
    cmdId := some (idField r.word)
    cmdLen := some (if opField r.word = 5#4 then r.len else 0#32)
    cmdData := some (if opField r.word = 5#4 then r.data else [])
    k := some 0#32
    lastAttrRc := some 0#32
    lastAttrSt := some 0#32 }

/-- The state after `complete` publishes the attribute answers `rc` and `st` (40_command_interface.md
R150). -/
def State.completed (s : State) (kind : Kind) (value : U32) (failId : U16) (rc st : U32) : State :=
  { s with
    rspKind := kind.code
    rspValue := value
    rspAttrRc := rc
    rspAttrStatus := st
    rspFailId := failId
    done := true
    phase := .idle }

/-- `complete(kind, value, fail_id)` (40_command_interface.md R150): publish the response and go IDLE. -/
def complete (kind : Kind) (value : U32) (failId : U16) (s : State) : Res State :=
  andThen (readReg .lastAttrRc s.lastAttrRc) fun rc =>
  andThen (readReg .lastAttrSt s.lastAttrSt) fun st =>
  .next (s.completed kind value failId rc st)

/-- The accept step of a command that takes an ID: latch, then check 2 of 40_command_interface.md R142
(an id out of range ends the command, with no transaction, R143), then go on. -/
def acceptWithId (r : Request) (go : State → Res State) (s : State) : Res State :=
  if s.cfg.idInRange (idField r.word) then go (s.latch r)
  else complete .invalidArgument 0#32 0#16 (s.latch r)

/-- The accept step of an illegal word: latch, then check 1 of 40_command_interface.md R142 ends the
command with no transaction (R144). A SEND request that breaks 30_encoding.md R115 is refused at the
command port and never accepted, whatever its other fields are (DEDUCED, log entry 8). -/
def acceptIllegal (r : Request) (s : State) : Res State :=
  if r.wellFormed then complete .illegalCommand 0#32 0#16 (s.latch r)
  else .refused .malformedRequest

/-- The reset event (70_reset_and_hazards.md R330, R331, R333): every engine field takes its reset value,
a running command is abandoned, no transaction is performed, and the configuration and the environment's
inputs stay as they are. A transaction that is never answered is abandoned with its command, so the next
command is answered anew (DESIGN CHOICE, log entry 4). -/
def State.engineReset (s : State) : State :=
  { State.resetWith s.cfg with
    requests := s.requests
    answers := if s.unanswered then s.answers.tail else s.answers
    draws := s.draws
    resetIn := s.resetIn }

end Sys2Proof.Machine
end

