-- ==== Sys2Proof/Machine/LinkPhases.lean ====
section
/-! DEFINITION. The phases of WAIT_LINK_UP and PREPARE_READINESS (45_link_flow_control.md R281, R285, R286). -/

namespace Sys2Proof.Machine

open Sys2Proof

/-- LK_POLL (R281): read the local power state; end when the read succeeds with the sentinel, all 32 bits
compared. A failed read is "not yet up" (R282), and the wait has no bound (R283). -/
def lkPoll (s : State) : Res State :=
  attrRead s.cfg.attrPowerstate s.cfg.powerstateSelector false s fun v st s =>
  if st = 0#32 && v == s.cfg.linkUpValue then complete .ok 0#32 0#16 s
  else .next s

/-- FC_EN0 (R285): write 0 to the first E2EFC enable register. -/
def fcEn0 (s : State) : Res State :=
  .next { memWrite32 s.cfg.regE2efcEn0 0#32 s with phase := .fcEn1 }

/-- FC_EN1 (R286): write 0 to the second E2EFC enable register; the command ends. -/
def fcEn1 (s : State) : Res State :=
  complete .ok 0#32 0#16 (memWrite32 s.cfg.regE2efcEn1 0#32 s)

end Sys2Proof.Machine
end

