-- ==== Sys2Proof/Machine/MailboxPhases.lean ====
section
/-! DEFINITION. The phases of RECV_CPORT (44_assignment.md R261 to R266). -/

namespace Sys2Proof.Machine

open Sys2Proof

/-- `id = MB_VALUE -32 1`, which wraps 0 to 0xFFFFFFFF (R263). -/
def mailboxId (v : U32) : U32 := v - 1#32

/-- MB_READ (R261): read the mailbox. A failed read ends the command with its status (R262); an id out of
range ends it with InvalidArgument and no acknowledgment (R263, R267), and so does the second check, the
lookup, which finds every id that passed the first (R266). -/
def mbReadPhase (s : State) : Res State :=
  mbxRead s fun v st s =>
  let s := { s with mbValue := some v }
  if st ≠ 0#32 then complete .mailboxError st 0#16 s
  else if s.cfg.cportMax ≤ (mailboxId v).toNat then complete .invalidArgument 0#32 0#16 s
  else if s.cfg.lookup (mailboxId v) = none then complete .invalidArgument 0#32 0#16 s
  else .next { s with phase := .mbAck }

/-- MB_ACK (R264): acknowledge with the original 1-based value; a failed acknowledgment ends the command
with its status when ACK_STATUS_CHECKED holds, otherwise the 0-based id is returned (R265). -/
def mbAckPhase (s : State) : Res State :=
  andThen (readReg .mbValue s.mbValue) fun v =>
  mbxAck (v.setWidth 16) s fun st s =>
  if s.cfg.ackStatusChecked && st != 0#32 then complete .mailboxError st 0#16 s
  else complete .ok (mailboxId v) 0#16 s

end Sys2Proof.Machine
end

