-- ==== Sys2Proof/Machine/ResetPhases.lean ====
section
/-! DEFINITION. The phases of the reset sequence (41_reset_engine.md R171 to R177, R181). -/

namespace Sys2Proof.Machine

open Sys2Proof

/-- RS_WAIT_TXQ (R171): poll the queue-empty bit of RS_ID. The wait has no bound. -/
def rsWaitTxq (s : State) : Res State :=
  andThen (readReg .rsId s.rsId) fun id =>
  memRead32 (s.cfg.txqeAddr id) s fun w s =>
  .next (if bitSet w (txqeMask id) then { s with phase := .rsTxAssert } else s)

/-- RS_TX_ASSERT (R172): assert the transmit reset strobe. -/
def rsTxAssert (s : State) : Res State :=
  andThen (readReg .rsId s.rsId) fun id =>
  .next { memWrite32 (s.cfg.txResetAddr id) s.cfg.txResetWord s with phase := .rsAttr 0 }

/-- RS_ATTR_j (R173): clear the j-th attribute of RS_ID by a local write of 0. A status other than 0
ends the command with IoError at once, the transmit strobe still asserted (R174); the result code decides
nothing (R178). -/
def rsAttr (j : Fin 4) (s : State) : Res State :=
  andThen (readReg .rsId s.rsId) fun id =>
  attrWrite (s.cfg.resetAttr j) 0#32 id false s fun st s =>
  if st = 0#32 then .next { s with phase := if j = 3 then .rsRxAssert else .rsAttr (j + 1) }
  else complete .ioError 0#32 id (s.setLife id .halfReset)

/-- RS_RX_ASSERT (R175): assert the receive reset strobe. -/
def rsRxAssert (s : State) : Res State :=
  andThen (readReg .rsId s.rsId) fun id =>
  .next { memWrite32 (s.cfg.rxResetAddr id) s.cfg.rxResetWord s with phase := .rsTxDeassert }

/-- RS_TX_DEASSERT (R176): deassert the transmit reset strobe, before the receive one. -/
def rsTxDeassert (s : State) : Res State :=
  andThen (readReg .rsId s.rsId) fun id =>
  .next { memWrite32 (s.cfg.txResetAddr id) 0#32 s with phase := .rsRxDeassert }

/-- The per-id advance of RESET_ALL and PREPARE_HANDOFF (R181): `K <- K +32 1`, then the next id's
sequence, or the end. -/
def resetAdvance (s : State) : Res State :=
  andThen (readReg .k s.k) fun k =>
  if (k + 1#32).toNat < s.cfg.cportMax then
    .next { s with k := some (k + 1#32), rsId := some ((k + 1#32).setWidth 16), phase := .rsWaitTxq }
  else complete .ok 0#32 0#16 { s with k := some (k + 1#32) }

/-- RS_RX_DEASSERT (R177): deassert the receive reset strobe; the reset of RS_ID is complete. RESET_ONE
ends, RESET_ALL and PREPARE_HANDOFF advance (R181). R177 names no successor for another CMD_OP. -/
def rsRxDeassert (s : State) : Res State :=
  andThen (readReg .rsId s.rsId) fun id =>
  andThen (readReg .cmdOp s.cmdOp) fun op =>
  let s := (memWrite32 (s.cfg.rxResetAddr id) 0#32 s).setLife id .resetDone
  if op = 1#4 then complete .ok 0#32 0#16 s
  else if op = 2#4 || op = 9#4 then resetAdvance s
  else .refused .foreignPhase

end Sys2Proof.Machine
end

