-- ==== Sys2Proof/Machine/RxPhases.lean ====
section
/-! DEFINITION. The phases of the arm sequence and of RECEIVE (42_rx_engine.md R200, R201, R207 to R214). -/

namespace Sys2Proof.Machine

open Sys2Proof

/-- ARM_ADDR (R200): register the receive buffer's address, always the CPort table's. -/
def armAddr (s : State) : Res State :=
  andThen (readReg .cmdId s.cmdId) fun id =>
  .next { memWrite32 (s.cfg.rxBufAddrReg id) (s.cfg.rxBuf id) s with phase := .armPause }

/-- ARM_PAUSE (R201): register the pause/restart size; CMD_ID is armed and the command ends, INIT_CPORT
with 0, RECEIVE with the handler's return code or 0 (R214). R201 names no end for another CMD_OP. -/
def armPause (s : State) : Res State :=
  andThen (readReg .cmdId s.cmdId) fun id =>
  andThen (readReg .cmdOp s.cmdOp) fun op =>
  let s := (memWrite32 (s.cfg.rxPauseReg id) s.cfg.rxPauseValue s).setLife id .armed
  if op = 3#4 then complete .ok 0#32 0#16 s
  else if op = 4#4 then
    andThen (readReg .cmdHandler s.cmdHandler) fun h =>
    if h then andThen (readReg .rxRc s.rxRc) fun rc => complete .ok rc 0#16 s
    else complete .ok 0#32 0#16 s
  else .refused .foreignPhase

/-- RX_POLL_EOM (R207): read the EOM word that holds this CPort's bits. -/
def rxPollEom (s : State) : Res State :=
  andThen (readReg .cmdId s.cmdId) fun id =>
  memRead32 (s.cfg.eomWordAddr id) s fun w s =>
  .next { s with rxEomw := some w, phase := .rxPollEot }

/-- The classification of a poll cycle (R209): error EOM, then EOT, then normal EOM, then the end of a
single poll, then the next cycle. Only this CPort's three bits count (R210). -/
def classify (id : U16) (eomw eotw : U32) (blocking : Bool) (s : State) : Res State :=
  if bitSet eomw (eomErrorMask id) then
    complete .receiveError 0#32 0#16 (s.setLife id .failedRx)
  else if bitSet eotw (eotMask id) then
    complete .overflow 0#32 0#16 (s.setLife id .failedRx)
  else if bitSet eomw (eomNormalMask id) then
    .next { s.setLife id .dispatched with phase := .rxCount }
  else if blocking then .next { s with phase := .rxPollEom }
  else complete .ok 0#32 0#16 s

/-- RX_POLL_EOT (R208): read the EOT word that holds this CPort's bit, and classify. -/
def rxPollEot (s : State) : Res State :=
  andThen (readReg .cmdId s.cmdId) fun id =>
  andThen (readReg .cmdBlocking s.cmdBlocking) fun blocking =>
  andThen (readReg .rxEomw s.rxEomw) fun eomw =>
  memRead32 (s.cfg.eotWordAddr id) s fun w s =>
  classify id eomw w blocking { s with rxEotw := some w }

/-- RX_COUNT (R211): read the transfer size; neither clamped nor checked. -/
def rxReadCount (s : State) : Res State :=
  andThen (readReg .cmdId s.cmdId) fun id =>
  memRead32 (s.cfg.rxXferSizeReg id) s fun w s =>
  .next { s with rxCount := some w, phase := .rxClear }

/-- RX_CLEAR (R212): clear this CPort's normal-EOM bit by writing the bit itself. -/
def rxClear (s : State) : Res State :=
  andThen (readReg .cmdId s.cmdId) fun id =>
  andThen (readReg .cmdHandler s.cmdHandler) fun h =>
  .next { memWrite32 (s.cfg.eomWordAddr id) (eomNormalMask id) s with
    phase := if h then .rxHandler else .armAddr }

/-- RX_HANDLER (R213): call the handler with the armed buffer and the count as read. The engine stays here
while the handler does not return (70_reset_and_hazards.md R343, R345). -/
def rxHandler (s : State) : Res State :=
  andThen (readReg .cmdId s.cmdId) fun id =>
  andThen (readReg .rxCount s.rxCount) fun count =>
  handlerCall id (s.cfg.rxBuf id) count s fun rc s =>
  .next { s with rxRc := some rc, phase := .armAddr }

end Sys2Proof.Machine
end

