-- ==== Sys2Proof/Machine/TxPhases.lean ====
section
/-! DEFINITION. The phases of SEND (43_tx_engine.md R242, R243). -/

namespace Sys2Proof.Machine

open Sys2Proof

/-- TX_COPY (R242): write data byte K into the transmit buffer, K in ascending order. A byte past the last one
of CMD_DATA, which no run reaches, holds no value (10_state.md R34, DEDUCED, log entry 1). -/
def txCopy (s : State) : Res State :=
  andThen (readReg .cmdId s.cmdId) fun id =>
  andThen (readReg .cmdLen s.cmdLen) fun len =>
  andThen (readReg .k s.k) fun k =>
  andThen (readReg .cmdData s.cmdData) fun data =>
  andThen (readReg .cmdData data[k.toNat]?) fun b =>
  .next { memWrite8 (s.cfg.txBuf id + k) b s with
    k := some (k + 1#32)
    phase := if (k + 1#32).toNat < len.toNat then .txCopy else .txEom }

/-- TX_EOM (R243): signal end of message; the command ends without waiting (R244). -/
def txEom (s : State) : Res State :=
  andThen (readReg .cmdId s.cmdId) fun id =>
  complete .ok 0#32 0#16 (memWrite8 (s.cfg.txEom id) s.cfg.eomTriggerValue s)

end Sys2Proof.Machine
end

