-- ==== Sys2Proof/Machine/Sequencer.lean ====
section
/-! DEFINITION. One step of a running command: the transaction of PHASE (10_state.md R36, R37). -/

namespace Sys2Proof.Machine

open Sys2Proof

/-- The transaction of PHASE and the successor its rule names (10_state.md R37). IDLE has none
(40_command_interface.md R147). -/
def stepPhase (s : State) : Res State :=
  match s.phase with
  | .idle => .refused .quiescent
  | .rsWaitTxq => rsWaitTxq s
  | .rsTxAssert => rsTxAssert s
  | .rsAttr j => rsAttr j s
  | .rsRxAssert => rsRxAssert s
  | .rsTxDeassert => rsTxDeassert s
  | .rsRxDeassert => rsRxDeassert s
  | .armAddr => armAddr s
  | .armPause => armPause s
  | .rxPollEom => rxPollEom s
  | .rxPollEot => rxPollEot s
  | .rxCount => rxReadCount s
  | .rxClear => rxClear s
  | .rxHandler => rxHandler s
  | .txCopy => txCopy s
  | .txEom => txEom s
  | .mbRead => mbReadPhase s
  | .mbAck => mbAckPhase s
  | .lkPoll => lkPoll s
  | .fcEn0 => fcEn0 s
  | .fcEn1 => fcEn1 s

end Sys2Proof.Machine
end

