-- ==== Sys2Proof/Machine/Assignment.lean ====
section
/-! DEFINITION. RECV_CPORT (44_assignment.md). A meaning is one engine step on behalf of its command: the
accept step when PHASE = IDLE, else the transaction of PHASE. -/

namespace Sys2Proof.Machine

open Sys2Proof

/-- RECV_CPORT (R260): read the mailbox, check the id, acknowledge, return the id; the read comes before
any check (R268). A phase of another command runs by its own rule (10_state.md R37). -/
def execRecvCport (s : State) : Res State :=
  match s.phase with
  | .idle => .next { s.latch (encode .recvCport) with phase := .mbRead }
  | .mbRead => mbReadPhase s
  | .mbAck => mbAckPhase s
  | _ => stepPhase s

end Sys2Proof.Machine
end

