-- ==== Sys2Proof/Machine/FlowControl.lean ====
section
/-! DEFINITION. WAIT_LINK_UP and PREPARE_READINESS (45_link_flow_control.md). A meaning is one engine step on
behalf of its command: the accept step when PHASE = IDLE, else the transaction of PHASE. -/

namespace Sys2Proof.Machine

open Sys2Proof

/-- WAIT_LINK_UP (R280): poll the power state until a successful read returns the sentinel. A phase of
another command runs by its own rule (10_state.md R37). -/
def execWaitLinkUp (s : State) : Res State :=
  match s.phase with
  | .idle => .next { s.latch (encode .waitLinkUp) with phase := .lkPoll }
  | .lkPoll => lkPoll s
  | _ => stepPhase s

/-- PREPARE_READINESS (R284): write 0 to both E2EFC enable registers. A phase of another command runs by
its own rule (10_state.md R37). -/
def execPrepareReadiness (s : State) : Res State :=
  match s.phase with
  | .idle => .next { s.latch (encode .prepareReadiness) with phase := .fcEn0 }
  | .fcEn0 => fcEn0 s
  | .fcEn1 => fcEn1 s
  | _ => stepPhase s

end Sys2Proof.Machine
end

