-- ==== Sys2Proof/Machine/ResetEngine.lean ====
section
/-! DEFINITION. RESET_ONE, RESET_ALL and PREPARE_HANDOFF (41_reset_engine.md). A meaning is one engine step
on behalf of its command: the accept step when PHASE = IDLE, else the transaction of PHASE. -/

namespace Sys2Proof.Machine

open Sys2Proof

/-- RESET_ONE id (R170): the reset sequence R171 to R177 on id. A phase of another command runs by its own
rule (10_state.md R37). -/
def execResetOne (id : U16) (s : State) : Res State :=
  match s.phase with
  | .idle =>
    acceptWithId (encode (.resetOne id))
      (fun s => .next { s with rsId := some id, phase := .rsWaitTxq }) s
  | .rsWaitTxq => rsWaitTxq s
  | .rsTxAssert => rsTxAssert s
  | .rsAttr j => rsAttr j s
  | .rsRxAssert => rsRxAssert s
  | .rsTxDeassert => rsTxDeassert s
  | .rsRxDeassert => rsRxDeassert s
  | _ => stepPhase s

/-- RESET_ALL (R180): the reset sequence on each id from 0 to CPORT_MAX - 1, stopping at the first
failure (R181, R182). A phase of another command runs by its own rule (10_state.md R37). -/
def execResetAll (s : State) : Res State :=
  match s.phase with
  | .idle => .next { s.latch (encode .resetAll) with rsId := some 0#16, phase := .rsWaitTxq }
  | .rsWaitTxq => rsWaitTxq s
  | .rsTxAssert => rsTxAssert s
  | .rsAttr j => rsAttr j s
  | .rsRxAssert => rsRxAssert s
  | .rsTxDeassert => rsTxDeassert s
  | .rsRxDeassert => rsRxDeassert s
  | _ => stepPhase s

/-- PREPARE_HANDOFF (R184): step for step RESET_ALL; only CMD_OP differs (R185). It does not disable flow
control (90_conflicts.md C3). A phase of another command runs by its own rule (10_state.md R37). -/
def execPrepareHandoff (s : State) : Res State :=
  match s.phase with
  | .idle => .next { s.latch (encode .prepareHandoff) with rsId := some 0#16, phase := .rsWaitTxq }
  | .rsWaitTxq => rsWaitTxq s
  | .rsTxAssert => rsTxAssert s
  | .rsAttr j => rsAttr j s
  | .rsRxAssert => rsRxAssert s
  | .rsTxDeassert => rsTxDeassert s
  | .rsRxDeassert => rsRxDeassert s
  | _ => stepPhase s

end Sys2Proof.Machine
end

