-- ==== Sys2Proof/Machine/RxDispatcher.lean ====
section
/-! DEFINITION. INIT_CPORT and RECEIVE (42_rx_engine.md). A meaning is one engine step on behalf of its
command: the accept step when PHASE = IDLE, else the transaction of PHASE. -/

namespace Sys2Proof.Machine

open Sys2Proof

/-- INIT_CPORT id (R203): the arm sequence R200, R201 on id. A phase of another command runs by its own
rule (10_state.md R37). -/
def execInitCport (id : U16) (s : State) : Res State :=
  match s.phase with
  | .idle => acceptWithId (encode (.initCport id)) (fun s => .next { s with phase := .armAddr }) s
  | .armAddr => armAddr s
  | .armPause => armPause s
  | _ => stepPhase s

/-- RECEIVE id with B and H (R205): poll cycles (R206 to R210), the dispatch of a normal EOM (R211 to
R213) and the re-arm (R214). A phase of another command runs by its own rule (10_state.md R37). -/
def execReceive (blocking handler : Bool) (id : U16) (s : State) : Res State :=
  match s.phase with
  | .idle =>
    acceptWithId (encode (.receive blocking handler id))
      (fun s => .next { s with phase := .rxPollEom }) s
  | .rxPollEom => rxPollEom s
  | .rxPollEot => rxPollEot s
  | .rxCount => rxReadCount s
  | .rxClear => rxClear s
  | .rxHandler => rxHandler s
  | .armAddr => armAddr s
  | .armPause => armPause s
  | _ => stepPhase s

end Sys2Proof.Machine
end

