-- ==== Sys2Proof/Machine/TxArbiter.lean ====
section
/-! DEFINITION. SEND (43_tx_engine.md). A meaning is one engine step on behalf of its command: the accept
step when PHASE = IDLE, else the transaction of PHASE. -/

namespace Sys2Proof.Machine

open Sys2Proof

/-- The accept step of SEND after the id check: check 3 of 40_command_interface.md R142 (R241), then
TX_COPY, or TX_EOM for an empty frame (40_command_interface.md R145, R245). -/
def startSend (len : U32) (s : State) : Res State :=
  if s.cfg.txBufSize < len.toNat then complete .invalidArgument 0#32 0#16 s
  else .next { s with phase := if len = 0#32 then .txEom else .txCopy }

/-- SEND id with len and data (R240): copy the bytes in ascending order, then signal end of message
(R242, R243). A request whose data does not hold len bytes is refused at the command port
(30_encoding.md R115). A phase of another command runs by its own rule (10_state.md R37). -/
def execSend (id : U16) (len : U32) (data : List U8) (s : State) : Res State :=
  match s.phase with
  | .idle =>
    if len.toNat = data.length then acceptWithId (encode (.send id len data)) (startSend len) s
    else .refused .malformedRequest
  | .txCopy => txCopy s
  | .txEom => txEom s
  | _ => stepPhase s

end Sys2Proof.Machine
end

