-- ==== Sys2Proof/Machine/Dispatch.lean ====
section
/-! DEFINITION. The meaning of each command: one engine step on its behalf. -/

namespace Sys2Proof.Machine

open Sys2Proof

def exec (i : Instr) (s : State) : Host.Outcome State Fault Refusal :=
  match i with
  | .resetOne id => Sys2Proof.Machine.execResetOne id s
  | .resetAll => Sys2Proof.Machine.execResetAll s
  | .initCport id => Sys2Proof.Machine.execInitCport id s
  | .receive blocking handler id => Sys2Proof.Machine.execReceive blocking handler id s
  | .send id len data => Sys2Proof.Machine.execSend id len data s
  | .recvCport => Sys2Proof.Machine.execRecvCport s
  | .waitLinkUp => Sys2Proof.Machine.execWaitLinkUp s
  | .prepareReadiness => Sys2Proof.Machine.execPrepareReadiness s
  | .prepareHandoff => Sys2Proof.Machine.execPrepareHandoff s

end Sys2Proof.Machine
end

