-- ==== Sys2Proof/Machine/Fetch.lean ====
section
/-! DEFINITION. The command port and the engine's step (40_command_interface.md R140, R146, R147,
70_reset_and_hazards.md R330, R331). -/

namespace Sys2Proof.Machine

open Sys2Proof

/-- The accept step of a request taken from the command port (R141, R142): a legal command has its
meaning, an illegal word completes with IllegalCommand. -/
def acceptRequest (r : Request) (s : State) : Res State :=
  match decode r with
  | .ok i => exec i s
  | .error _ => acceptIllegal r s

/-- One engine step without a reset event. While PHASE ≠ IDLE the command port is not seen and the phase's
transaction is performed (R140, 10_state.md R37); while PHASE = IDLE the request on the command port, if
there is one, is taken, and otherwise there is no step (R147). -/
def commandStep (s : State) : Res State :=
  match s.phase with
  | .idle =>
    match s.requests with
    | [] => .refused .quiescent
    | r :: rest => acceptRequest r { s with requests := rest }
  | _ => stepPhase s

/-- One step of the engine: a reset event if the reset input is asserted (R330, R331), else a step of the
command port or of the running command. -/
def engineStep (s : State) : Res State :=
  match s.resetIn with
  | true :: rest => .next { s with resetIn := rest }.engineReset
  | levels => commandStep { s with resetIn := levels.tail }

/-- Put a request on the command port of an engine that takes it in its next step: first of the requests,
PHASE = IDLE and the reset input not asserted. -/
def State.present (s : State) (r : Request) : State :=
  { s with
    requests := r :: s.requests
    phase := .idle
    resetIn := match s.resetIn with
      | true :: rest => false :: rest
      | levels => levels }

end Sys2Proof.Machine
end

