-- ==== Sys2Proof/Machine/Step.lean ====
section
/-! DEFINITION. The machine's step, and where it finds its next instruction. -/

namespace Sys2Proof.Machine

open Sys2Proof

/-- One step of the machine (40_command_interface.md R146). -/
def step (s : State) : Host.Outcome State Fault Refusal := engineStep s

/-- The state whose next step takes the request with the given opcode-table bits from the command port. -/
def State.withFetchWord (s : State) (nbits w : Nat) : State := s.present (requestOfBits nbits w)

end Sys2Proof.Machine
end

