-- ==== Sys2Proof/Machine/Layout.lean ====
section
/-! DEFINITION. The regions of the I/O window, the configuration check and the building of an engine
(20_memory.md R78, R79, R82, 00_scope.md R9, 70_reset_and_hazards.md R334). -/

namespace Sys2Proof

/-- The accesses the engine makes in a region (20_memory.md R78). -/
inductive Access where
  | read32
  | write32
  | readClear32
  | write8
  /-- Read by the handler only. -/
  | noAccess
  deriving DecidableEq, Repr

/-- The regions of 20_memory.md R78, by name. -/
inductive RegionName where
  | txqeStatus
  | txReset
  | rxReset
  | rxBufferAddress
  | rxPauseSize
  | eomStatus
  | eotStatus
  | rxTransferSize
  | e2efcEnable0
  | e2efcEnable1
  | txBuffers
  | rxBuffers
  deriving DecidableEq, Repr

/-- A region of the I/O window: its start address, its size in bytes and the engine's accesses. -/
structure Region where
  name : RegionName
  start : Nat
  size : Nat
  access : Access
  deriving DecidableEq, Repr

/-- `W16 = ceil(CPORT_MAX/16)` (20_memory.md R78). -/
def Config.w16 (c : Config) : Nat := (c.cportMax + 15) / 16

/-- `W32 = ceil(CPORT_MAX/32)` (20_memory.md R78). -/
def Config.w32 (c : Config) : Nat := (c.cportMax + 31) / 32

/-- The twelve regions (20_memory.md R78). -/
def Config.regions (c : Config) : List Region :=
  [ ⟨.txqeStatus, c.regTxqeBase.toNat, 4 * c.w32, .read32⟩,
    ⟨.txReset, c.regTxResetBase.toNat, 4 * c.cportMax, .write32⟩,
    ⟨.rxReset, c.regRxResetBase.toNat, 4 * c.cportMax, .write32⟩,
    ⟨.rxBufferAddress, c.regRxBufAddrBase.toNat, 4 * c.cportMax, .write32⟩,
    ⟨.rxPauseSize, c.regRxPauseBase.toNat, 4 * c.cportMax, .write32⟩,
    ⟨.eomStatus, c.regEomStatusBase.toNat, 4 * c.w16, .readClear32⟩,
    ⟨.eotStatus, c.regEotStatusBase.toNat, 4 * c.w32, .read32⟩,
    ⟨.rxTransferSize, c.regRxXferSizeBase.toNat, 4 * c.cportMax, .read32⟩,
    ⟨.e2efcEnable0, c.regE2efcEn0.toNat, 4, .write32⟩,
    ⟨.e2efcEnable1, c.regE2efcEn1.toNat, 4, .write32⟩,
    ⟨.txBuffers, c.txBufBase.toNat, c.cportMax * c.txBufStride, .write8⟩,
    ⟨.rxBuffers, c.rxBufBase.toNat, c.cportMax * c.rxBufStride, .noAccess⟩ ]

/-- Two regions share no address. -/
def Region.disjoint (a b : Region) : Bool :=
  decide (a.start + a.size ≤ b.start) || decide (b.start + b.size ≤ a.start)

/-- Every region of a list is disjoint from every later one. -/
def pairwiseDisjoint : List Region → Bool
  | [] => true
  | r :: rest => rest.all (fun q => r.disjoint q) && pairwiseDisjoint rest

/-- A `REG_*` base is a multiple of 4 (00_scope.md R9). -/
def aligned4 (a : U32) : Bool := a.toNat % 4 == 0

/-- Every `REG_*` base is a multiple of 4 (00_scope.md R9). -/
def Config.basesAligned (c : Config) : Bool :=
  aligned4 c.regTxqeBase && aligned4 c.regTxResetBase && aligned4 c.regRxResetBase
    && aligned4 c.regRxBufAddrBase && aligned4 c.regRxPauseBase && aligned4 c.regEomStatusBase
    && aligned4 c.regEotStatusBase && aligned4 c.regRxXferSizeBase && aligned4 c.regE2efcEn0
    && aligned4 c.regE2efcEn1

/-- The buffers of every id below CPORT_MAX lie below 2^32 (00_scope.md R9). -/
def Config.buffersFit (c : Config) : Bool :=
  (List.range c.cportMax).all fun id =>
    decide (c.txBufBase.toNat + id * c.txBufStride + c.txBufStride ≤ 2 ^ 32)
      && decide (c.rxBufBase.toNat + id * c.rxBufStride + c.rxBufStride ≤ 2 ^ 32)

/-- `wf(cfg)` (00_scope.md R9). The last check, that every region lies inside the 32-bit window, is
DEDUCED from R77 and R19 ("none of it wraps"), since R9's own text bounds the buffers only (log entry
7). -/
def Config.wf (c : Config) : Bool :=
  decide (1 ≤ c.cportMax) && decide (c.cportMax ≤ 64)
    && decide (c.cportMax ≤ c.tableLen)
    && decide (1 ≤ c.txBufSize) && decide (c.txBufSize ≤ c.txEomOffset)
    && decide (c.txEomOffset < c.txBufStride)
    && decide (1 ≤ c.rxBufSize) && decide (c.rxBufSize ≤ c.rxBufStride)
    && c.txResetPattern != 0#3 && c.rxResetPattern != 0#3
    && c.basesAligned && c.buffersFit
    && pairwiseDisjoint c.regions
    && c.regions.all (fun r => decide (r.start + r.size ≤ 2 ^ 32))

/-- An address lies in a region. -/
def Region.holds (r : Region) (a : Nat) : Bool :=
  decide (r.start ≤ a) && decide (a < r.start + r.size)

/-- The region an address lies in, `none` for the rest of the window (20_memory.md R79). -/
def Config.regionAt (c : Config) (a : U32) : Option Region :=
  c.regions.find? fun r => r.holds a.toNat

end Sys2Proof

namespace Sys2Proof.Machine

open Sys2Proof

/-- Building an engine: a configuration that fails the check yields none (00_scope.md R9,
70_reset_and_hazards.md R334: "It is not a step"). -/
def State.build (c : Config) : Host.Outcome State Fault Refusal :=
  if c.wf then .next (State.resetWith c) else .refused .badConfiguration

/-- A transaction is one the engine may issue: an I/O access in a region of 20_memory.md R78 whose
accesses include it, a 32-bit one at a multiple of 4 (R79, R82); never an 8-bit read (R71); a local
attribute access (R72); any mailbox or handler transaction. -/
def Txn.permitted (c : Config) : Txn → Bool
  | .memRead8 _ => false
  | .memRead32 a =>
    aligned4 a && match c.regionAt a with
      | some r => r.access == .read32 || r.access == .readClear32
      | none => false
  | .memWrite32 a _ =>
    aligned4 a && match c.regionAt a with
      | some r => r.access == .write32 || r.access == .readClear32
      | none => false
  | .memWrite8 a _ =>
    match c.regionAt a with
    | some r => r.access == .write8
    | none => false
  | .attrWrite _ _ _ peer => !peer
  | .attrRead _ _ peer => !peer
  | .mbxRead | .mbxAck _ | .handlerCall _ _ _ => true

end Sys2Proof.Machine
end

