-- ==== Sys2Proof/Machine/Environment.lean ====
section
/-! DEFINITION. What the engine's transactions mean to the environment (20_memory.md R80, R84, R90 to R95),
and the view of the I/O window that the event history gives. No engine rule depends on anything here
(00_scope.md R16). -/

namespace Sys2Proof.Machine

open Sys2Proof

/-- The side effect of a transaction on the environment (20_memory.md R84). `id` is a CPort id. -/
inductive Effect where
  /-- No side effect (ASSUMED for reads by R84). -/
  | noEffect
  | assertTxStrobe (id : Nat)
  | deassertTxStrobe (id : Nat)
  | assertRxStrobe (id : Nat)
  | deassertRxStrobe (id : Nat)
  /-- Registers the next-frame destination: the receive-buffer address or the pause size. -/
  | registerDestination (id : Nat)
  /-- Clears the status bits that are 1 in the written word (write-one-to-clear, R91). -/
  | clearStatus (addr : U32) (bits : U32)
  /-- Stores one byte of transmit data. -/
  | storeByte (addr : U32) (v : U8)
  /-- Signals end of message; the hardware transmits the buffered frame. -/
  | signalEom (id : Nat)
  /-- Disables E2EFC for the CPorts of an enable register. -/
  | disableE2efc (addr : U32)
  /-- Sets an attribute (on a write whose status is 0, R95). -/
  | setAttr (attr : U16) (sel : U16) (value : U32)
  /-- An attribute write that answered a status other than 0: not said. -/
  | attrFailed
  /-- May consume the mailbox slot. -/
  | mailboxRead
  /-- Signals the peer that the value was taken. -/
  | mailboxAck (v : U16)
  /-- Whatever the handler does, except writes to engine state. -/
  | handler
  /-- Not an access the engine makes: not specified. -/
  | unspecified
  deriving DecidableEq, Repr

/-- The side effect of a record of the event history (20_memory.md R84). -/
def Event.effect (c : Config) (e : Event) : Effect :=
  match e.txn with
  | .memRead8 _ => .unspecified
  | .memRead32 _ => .noEffect
  | .memWrite32 a v =>
    match c.regionAt a with
    | some r =>
      let id := (a.toNat - r.start) / 4
      match r.name with
      | .txReset => if v = 0 then .deassertTxStrobe id else .assertTxStrobe id
      | .rxReset => if v = 0 then .deassertRxStrobe id else .assertRxStrobe id
      | .rxBufferAddress | .rxPauseSize => .registerDestination id
      | .eomStatus => .clearStatus a v
      | .e2efcEnable0 | .e2efcEnable1 => if v = 0 then .disableE2efc a else .unspecified
      | .txqeStatus | .eotStatus | .rxTransferSize | .txBuffers | .rxBuffers => .unspecified
    | none => .unspecified
  | .memWrite8 a v =>
    match c.regionAt a with
    | some r =>
      if r.name = .txBuffers then
        let offset := (a.toNat - r.start) % c.txBufStride
        if offset = c.txEomOffset then .signalEom ((a.toNat - r.start) / c.txBufStride)
        else if offset < c.txBufSize then .storeByte a v
        else .unspecified
      else .unspecified
    | none => .unspecified
  | .attrWrite attr value sel _ =>
    match e.answer with
    | .attrWritten _ st => if st = 0 then .setAttr attr sel value else .attrFailed
    | _ => .unspecified
  | .attrRead _ _ _ => .noEffect
  | .mbxRead => .mailboxRead
  | .mbxAck v => .mailboxAck v
  | .handlerCall _ _ _ => .handler

/-- The idempotent rows of 20_memory.md R84; "not assumed" and "no" are false. R84's AttrWrite row answers for
"sets the attribute" and names no status: that a write that answered a status other than 0 is not idempotent
is the model's choice (DESIGN CHOICE, log entry 18). -/
def Effect.idempotent : Effect → Bool
  | .noEffect | .assertTxStrobe _ | .deassertTxStrobe _ | .assertRxStrobe _ | .deassertRxStrobe _
  | .registerDestination _ | .clearStatus _ _ | .storeByte _ _ | .disableE2efc _ | .setAttr _ _ _ => true
  | .signalEom _ | .attrFailed | .mailboxRead | .mailboxAck _ | .handler | .unspecified => false

/-- The status word after a word is written to it: each bit that is 1 in the written word is cleared and
the other bits stay (write-one-to-clear, 20_memory.md R91). -/
def writeOneToClear (old written : U32) : U32 := old &&& ~~~written

/-- `txqe_mask(id)` reads 1 in the word: the CPort's transmit queue is empty (20_memory.md R90). -/
def queueEmpty (w : U32) (id : U16) : Bool := bitSet w (txqeMask id)

/-- The 32-bit value a record writes to an address, if it does. -/
def Event.word? (a : U32) (e : Event) : Option U32 :=
  match e.txn with
  | .memWrite32 b v => if b = a then some v else none
  | _ => none

/-- The byte a record writes to an address, if it does. -/
def Event.byte? (a : U32) (e : Event) : Option U8 :=
  match e.txn with
  | .memWrite8 b v => if b = a then some v else none
  | _ => none

/-- The last 32-bit value the engine wrote to an address, as its history shows it. It is the engine's
write, not what the environment's register holds (20_memory.md R88). -/
def State.lastWord (s : State) (a : U32) : Option U32 := s.history.reverse.findSome? (Event.word? a)

/-- The last byte the engine wrote to an address, as its history shows it. -/
def State.lastByte (s : State) (a : U32) : Option U8 := s.history.reverse.findSome? (Event.byte? a)

end Sys2Proof.Machine
end

