-- ==== Sys2Proof/Safety.lean ====
section
/-! DEFINITION. What claims speak of: the tables of 10_state.md R36 and 40_command_interface.md R145, runs and the
transactions they perform, the invariant of every engine state, and the duties of the host and the handler
(70_reset_and_hazards.md). -/

namespace Sys2Proof

/-- The commands that take an ID (30_encoding.md R112). -/
def Instr.takesId : Instr → Bool
  | .resetOne _ | .initCport _ | .receive _ _ _ | .send _ _ _ => true
  | .resetAll | .recvCport | .waitLinkUp | .prepareReadiness | .prepareHandoff => false

/-- The commands that can run forever (70_reset_and_hazards.md R345): those of its table, and RECEIVE with a
handler, which stays in RX_HANDLER while the handler does not return. -/
def Instr.canRunForever : Instr → Bool
  | .resetOne _ | .resetAll | .prepareHandoff | .waitLinkUp => true
  | .receive blocking handler _ => blocking || handler
  | .initCport _ | .send _ _ _ | .recvCport | .prepareReadiness => false

end Sys2Proof

namespace Sys2Proof.Machine

open Sys2Proof

/-! ### The spec's tables of commands and phases -/

/-- The start phase of a command (40_command_interface.md R145). -/
def startPhase : Instr → Phase
  | .resetOne _ | .resetAll | .prepareHandoff => .rsWaitTxq
  | .initCport _ => .armAddr
  | .receive _ _ _ => .rxPollEom
  | .send _ len _ => if 0 < len.toNat then .txCopy else .txEom
  | .recvCport => .mbRead
  | .waitLinkUp => .lkPoll
  | .prepareReadiness => .fcEn0

/-- RS_ID after the accept step of a command that passes the checks (40_command_interface.md R145):
CMD_ID for RESET_ONE, 0 for RESET_ALL and PREPARE_HANDOFF, otherwise as before. -/
def startRsId (i : Instr) (before : Option U16) : Option U16 :=
  match i with
  | .resetOne id => some id
  | .resetAll | .prepareHandoff => some 0#16
  | .initCport _ | .receive _ _ _ | .send _ _ _ | .recvCport | .waitLinkUp | .prepareReadiness => before

/-- The column "used by" of 10_state.md R36: the opcodes of the commands that use a phase. -/
def Phase.usedBy : Phase → List (BitVec 4)
  | .idle => []
  | .rsWaitTxq | .rsTxAssert | .rsAttr _ | .rsRxAssert | .rsTxDeassert | .rsRxDeassert => [1#4, 2#4, 9#4]
  | .armAddr | .armPause => [3#4, 4#4]
  | .rxPollEom | .rxPollEot | .rxCount | .rxClear | .rxHandler => [4#4]
  | .txCopy | .txEom => [5#4]
  | .mbRead | .mbAck => [6#4]
  | .lkPoll => [7#4]
  | .fcEn0 | .fcEn1 => [8#4]

/-- The accept-step checks 2 and 3 of 40_command_interface.md R142 pass. -/
def passesChecks (c : Config) (i : Instr) : Bool :=
  (!i.takesId || c.idInRange i.id) && decide (i.len.toNat ≤ c.txBufSize)

/-! ### Runs -/

/-- `n` steps of the machine, stopping at the first fault or refusal. -/
def runSteps : Nat → State → Res State
  | 0, s => .next s
  | n + 1, s => andThen (step s) (runSteps n)

/-- The outcome with its next state, if there is one, changed by `f`. -/
def mapNext (f : State → State) (x : Res State) : Res State := andThen x fun s => .next (f s)

/-- The answers of one successful reset sequence whose queue is empty at its first poll: the status word
and the four result codes. -/
def resetAnswers (w : U32) (rc : Fin 4 → U32) : List Answer :=
  [.word w, .attrWritten (rc 0) 0, .attrWritten (rc 1) 0, .attrWritten (rc 2) 0, .attrWritten (rc 3) 0]

/-- The nine records of one successful reset sequence (41_reset_engine.md R171 to R177). -/
def resetRecords (c : Config) (id : U16) (w : U32) (rc : Fin 4 → U32) : List Event :=
  [ ⟨.memRead32 (c.txqeAddr id), .word w⟩,
    ⟨.memWrite32 (c.txResetAddr id) c.txResetWord, .nothing⟩,
    ⟨.attrWrite c.attrConnectionState 0 id false, .attrWritten (rc 0) 0⟩,
    ⟨.attrWrite c.attrLocalBufferSpace 0 id false, .attrWritten (rc 1) 0⟩,
    ⟨.attrWrite c.attrPeerBufferSpace 0 id false, .attrWritten (rc 2) 0⟩,
    ⟨.attrWrite c.attrCreditsToSend 0 id false, .attrWritten (rc 3) 0⟩,
    ⟨.memWrite32 (c.rxResetAddr id) c.rxResetWord, .nothing⟩,
    ⟨.memWrite32 (c.txResetAddr id) 0, .nothing⟩,
    ⟨.memWrite32 (c.rxResetAddr id) 0, .nothing⟩ ]

/-- The answers of a reset sequence whose attribute write number `j` answers `(failRc, failSt)`, the
earlier ones succeeding (41_reset_engine.md R174). -/
def failedResetAnswers (w : U32) (rc : Fin 4 → U32) (j : Fin 4) (failRc failSt : U32) : List Answer :=
  (resetAnswers w rc).take (1 + j.val) ++ [.attrWritten failRc failSt]

/-- The records of a reset sequence that stops at the failure of attribute write number `j`: the poll, the
transmit assert and `j + 1` attribute writes (41_reset_engine.md R174, R179). -/
def failedResetRecords (c : Config) (id : U16) (w : U32) (rc : Fin 4 → U32) (j : Fin 4)
    (failRc failSt : U32) : List Event :=
  (resetRecords c id w rc).take (2 + j.val)
    ++ [⟨.attrWrite (c.resetAttr j) 0 id false, .attrWritten failRc failSt⟩]

/-- The records of SEND's byte copy from byte `k` on: the bytes at ascending addresses
(43_tx_engine.md R242). -/
def copyRecords (base : U32) : Nat → List U8 → List Event
  | _, [] => []
  | k, b :: rest => ⟨.memWrite8 (base + BitVec.ofNat 32 k) b, .nothing⟩ :: copyRecords base (k + 1) rest

/-! ### The invariant of every engine state -/

/-- CMD_OP holds an opcode of the commands that use the phase (10_state.md R36). -/
def State.opUsesPhase (s : State) : Bool :=
  match s.cmdOp with
  | some op => s.phase.usedBy.contains op
  | none => false

/-- The operand registers, K and the last attribute answers hold values, as they do from the accept step
on (40_command_interface.md R141). -/
def State.operandsHeld (s : State) : Bool :=
  s.cmdId.isSome && s.cmdBlocking.isSome && s.cmdHandler.isSome && s.cmdLen.isSome && s.cmdData.isSome
    && s.k.isSome && s.lastAttrRc.isSome && s.lastAttrSt.isSome

/-- CMD_ID is an id of the CPort table, as check 2 of 40_command_interface.md R142 leaves it. -/
def State.cmdIdInRange (s : State) : Bool :=
  match s.cmdId with
  | some id => s.cfg.idInRange id
  | none => false

/-- RS_ID is an id of the CPort table: CMD_ID in RESET_ONE, K otherwise (10_state.md R38, R39). -/
def State.resetIdOk (s : State) : Bool :=
  match s.rsId, s.cmdId, s.k with
  | some r, some id, some k =>
    s.cfg.idInRange r &&
      (if s.cmdOp = some 1#4 then r == id else decide (r.toNat = k.toNat))
  | _, _, _ => false

/-- In TX_COPY, K < CMD_LEN ≤ TX_BUF_SIZE and CMD_DATA holds CMD_LEN bytes (43_tx_engine.md R242,
30_encoding.md R115). -/
def State.copyOk (s : State) : Bool :=
  match s.k, s.cmdLen, s.cmdData with
  | some k, some len, some data =>
    decide (k.toNat < len.toNat) && decide (len.toNat ≤ s.cfg.txBufSize)
      && decide (len.toNat = data.length)
  | _, _, _ => false

/-- In ARM_ADDR and ARM_PAUSE of a RECEIVE with a handler, RX_RC holds the handler's return code
(42_rx_engine.md R214). -/
def State.returnCodeOk (s : State) : Bool :=
  s.cmdOp != some 4#4 || s.cmdHandler != some true || s.rxRc.isSome

/-- In MB_ACK, the mailbox value is the 1-based form of an id of the CPort table (44_assignment.md R264). -/
def State.mailboxOk (s : State) : Bool :=
  match s.mbValue with
  | some v => decide ((mailboxId v).toNat < s.cfg.cportMax)
  | none => false

/-- What each phase rests on: the registers it reads hold values that an earlier step of the command
wrote (10_state.md R40). -/
def State.phaseOk (s : State) : Bool :=
  match s.phase with
  | .idle => true
  | .rsWaitTxq | .rsTxAssert | .rsAttr _ | .rsRxAssert | .rsTxDeassert | .rsRxDeassert => s.resetIdOk
  | .armAddr | .armPause => s.cmdIdInRange && s.returnCodeOk
  | .rxPollEom => s.cmdIdInRange
  | .rxPollEot => s.cmdIdInRange && s.rxEomw.isSome
  | .rxCount => s.cmdIdInRange
  | .rxClear | .rxHandler => s.cmdIdInRange && s.rxCount.isSome
  | .txCopy => s.cmdIdInRange && s.copyOk
  | .txEom => s.cmdIdInRange
  | .mbRead | .lkPoll | .fcEn0 | .fcEn1 => true
  | .mbAck => s.mailboxOk

/-- The invariant of every engine state: a well-formed configuration (00_scope.md R9), one lifecycle per
CPort, a response that `complete` or reset left (RSP_KIND at most 6, RSP_FAIL_ID an id, 10_state.md R41),
DONE only while IDLE (R42), and, while a command runs, the operands held, the phase one of the command's
own and what the phase rests on. -/
def State.inv (s : State) : Bool :=
  s.cfg.wf && s.life.length == s.cfg.cportMax
    && decide (s.rspKind.toNat ≤ 6) && s.cfg.idInRange s.rspFailId
    && !(s.done && s.busy)
    && (!s.busy || (s.operandsHeld && s.opUsesPhase && s.phaseOk))

/-- The transaction a state's phase performs with an answer of the environment, `none` where the phase
writes or is IDLE (10_state.md R36). Registers without a value read as 0 here. -/
def State.pendingQuestion (s : State) : Option Txn :=
  match s.phase with
  | .rsWaitTxq => some (.memRead32 (s.cfg.txqeAddr (s.rsId.getD 0)))
  | .rsAttr j => some (.attrWrite (s.cfg.resetAttr j) 0 (s.rsId.getD 0) false)
  | .rxPollEom => some (.memRead32 (s.cfg.eomWordAddr (s.cmdId.getD 0)))
  | .rxPollEot => some (.memRead32 (s.cfg.eotWordAddr (s.cmdId.getD 0)))
  | .rxCount => some (.memRead32 (s.cfg.rxXferSizeReg (s.cmdId.getD 0)))
  | .rxHandler => some (.handlerCall (s.cmdId.getD 0) (s.cfg.rxBuf (s.cmdId.getD 0)) (s.rxCount.getD 0))
  | .mbRead => some .mbxRead
  | .mbAck => some (.mbxAck ((s.mbValue.getD 0).setWidth 16))
  | .lkPoll => some (.attrRead s.cfg.attrPowerstate s.cfg.powerstateSelector false)
  | .idle | .rsTxAssert | .rsRxAssert | .rsTxDeassert | .rsRxDeassert | .armAddr | .armPause | .rxClear
  | .txCopy | .txEom | .fcEn0 | .fcEn1 => none

/-- An answer has the shape of 00_scope.md R14 for a transaction, or it is one that never comes, which
keeps the engine in its phase (93_implementation_defined.md I24). -/
def Answer.fits (a : Answer) (t : Txn) : Bool :=
  match t, a with
  | .memRead8 _, .byte _ => true
  | .memRead32 _, .word _ => true
  | .memWrite8 _ _, .nothing => true
  | .memWrite32 _ _, .nothing => true
  | .attrWrite _ _ _ _, .attrWritten _ _ => true
  | .attrRead _ _ _, .attrValue _ _ _ => true
  | .mbxRead, .mbxValue _ _ => true
  | .mbxAck _, .mbxStatus _ => true
  | .handlerCall _ _ _, .handlerReturn _ => true
  | .memRead8 _, .never | .memRead32 _, .never | .attrWrite _ _ _ _, .never | .attrRead _ _ _, .never
  | .mbxRead, .never | .mbxAck _, .never | .handlerCall _ _ _, .never => true
  | _, _ => false

/-- The environment's next answer, if one is listed and the phase takes one, has the right shape or never
comes (40_command_interface.md R146, R147). -/
def State.answerFits (s : State) : Bool :=
  match s.pendingQuestion, s.answers with
  | some t, a :: _ => a.fits t
  | _, _ => true

/-! ### Duties of the host and the handler (70_reset_and_hazards.md) -/

/-- The host may present the command now: the engine is not busy (R340); a RECEIVE is on an armed CPort
(R336 step 4, R341, R347, R348), a SEND not on a half-reset one (R348), and an INIT_CPORT not on a CPort
that needs a reset first (R341, R348; DEDUCED, since the ghost lifecycle forgets the error once the CPort is
armed, log entry 9). The engine does not enforce any of it (R335). -/
def hostMayIssue (s : State) (i : Instr) : Bool :=
  !s.busy &&
    match i with
    | .receive _ _ id => s.lifeOf id == .armed
    | .send id _ _ => s.lifeOf id != .halfReset
    | .initCport id => s.lifeOf id != .failedRx && s.lifeOf id != .halfReset
    | .resetOne _ | .resetAll | .recvCport | .waitLinkUp | .prepareReadiness | .prepareHandoff => true

/-- The handler may read the address: it lies in the first min(len, RX_BUF_SIZE) bytes from buf (R342). -/
def handlerMayRead (c : Config) (buf len a : U32) : Bool :=
  decide (buf.toNat ≤ a.toNat) && decide (a.toNat < buf.toNat + min len.toNat c.rxBufSize)

/-- The addresses the handler must not write: this CPort's EOM status, receive-buffer address and pause
registers (R343). -/
def handlerMustNotWrite (c : Config) (id : U16) (a : U32) : Bool :=
  a == c.eomWordAddr id || a == c.rxBufAddrReg id || a == c.rxPauseReg id

/-- A RECEIVE in any form or a SEND on the CPort: what stands in step 5 of the boot order (R336). -/
def isFrameCommand (c : U16) : Instr → Bool
  | .receive _ _ id => id == c
  | .send id _ _ => id == c
  | .resetOne _ | .resetAll | .initCport _ | .recvCport | .waitLinkUp | .prepareReadiness
  | .prepareHandoff => false

/-- The boot order of a host whose CPort is `c` and whose step 5 is `frames` (R336). The engine does not
enforce it (R335). -/
def bootOrder (c : U16) (frames : List Instr) : List Instr :=
  [.waitLinkUp, .prepareReadiness, .recvCport, .initCport c] ++ frames ++ [.prepareHandoff]

end Sys2Proof.Machine
end

