-- ==== Sys2Proof/Certificates/Slice0/Obligations.lean ====
section
/-! DEFINITION. The statements for the provers. Each docstring names the rule of spec/ it formalises. A next
state is written as a record update, so an equation also says what stays unchanged: every field it does not
name. The fields requests, answers, draws and resetIn are the model's inputs (log entries 3 to 5): what a
statement says of them is the model's choice. -/

open Sys2Proof Sys2Proof.Machine

/-! ### Encoding (30_encoding.md) -/

/-- Decoding the encoding of a well-formed command gives the command back, and its request is well formed
(30_encoding.md R110 to R115). -/
def Obligations.DecodeOfEncode : Prop :=
  ∀ i : Instr, i.wellFormed = true → decode (encode i) = .ok i ∧ (encode i).wellFormed = true

/-- A request that decodes to a command has that command's word, and SEND's operands: no two words mean
the same command (30_encoding.md R111 to R115). -/
def Obligations.EncodeOfDecode : Prop :=
  ∀ (r : Request) (i : Instr), decode r = .ok i →
    r.word = (encode i).word ∧ (opField r.word = 5#4 → r = encode i)

/-- R116: a word is illegal when one of the four conditions holds; equivalently, when no row of R113
matches it. -/
def Obligations.IllegalWords : Prop :=
  ∀ r : Request,
    ((∃ e, decode r = .error e) ↔
      (opField r.word ∈ [0x0#4, 0xA#4, 0xB#4, 0xC#4, 0xD#4, 0xE#4, 0xF#4] ∨
       rsvField r.word ≠ 0 ∨
       ((blockingBit r.word = true ∨ handlerBit r.word = true) ∧ opField r.word ≠ 4#4) ∨
       (idField r.word ≠ 0 ∧ opField r.word ∈ [2#4, 6#4, 7#4, 8#4, 9#4]))) ∧
    ((∃ e, decode r = .error e) ↔ ∀ row ∈ opcodeTable, row.selects r.word = false)

/-- R113: no two rows of the opcode table match the same word, and a word that selects a row decodes to a
command with the row's mnemonic. -/
def Obligations.OpcodeRowsSeparate : Prop :=
  ∀ (r : Request) (row₁ row₂ : OpcodeRow), row₁ ∈ opcodeTable → row₂ ∈ opcodeTable →
    row₁.selects r.word = true →
      (row₂.selects r.word = true → row₁ = row₂) ∧
      ∃ i, decode r = .ok i ∧ i.mnemonic = row₁.mnemonic

/-- R123: the encoding examples. -/
def Obligations.ExampleWordsDecode : Prop :=
  (∀ len data, decode ⟨0x10000003, len, data⟩ = .ok (.resetOne 3)) ∧
  (∀ len data, decode ⟨0x4C000002, len, data⟩ = .ok (.receive true true 2)) ∧
  decode ⟨0x50000001, 2, [0xAA, 0x55]⟩ = .ok (.send 1 2 [0xAA, 0x55]) ∧
  (∀ len data, decode ⟨0x60000000, len, data⟩ = .ok .recvCport) ∧
  (∀ len data, ∃ e, decode ⟨0x18000003, len, data⟩ = .error e) ∧
  (∀ len data, ∃ e, decode ⟨0x20000001, len, data⟩ = .error e) ∧
  (∀ len data, ∃ e, decode ⟨0x00000000, len, data⟩ = .error e)

/-! ### The command port and the accept step (40_command_interface.md) -/

/-- R145: in IDLE, a well-formed command that passes the checks of R142 has its operands latched (R141),
goes to its start phase with the other writes of R145's table, and performs no transaction; nothing else
changes. -/
def Obligations.CommandAccepted : Prop :=
  ∀ (i : Instr) (s : State), s.phase = .idle → i.wellFormed = true → passesChecks s.cfg i = true →
    exec i s = .next { s with
      done := false
      cmdOp := some i.opcode
      cmdId := some i.id
      cmdBlocking := some i.blocking
      cmdHandler := some i.handler
      cmdLen := some i.len
      cmdData := some i.data
      k := some 0
      lastAttrRc := some 0
      lastAttrSt := some 0
      rsId := startRsId i s.rsId
      phase := startPhase i }

/-- R143: a command that check 2 or check 3 of R142 ends (an id out of range, an oversize SEND) completes
with InvalidArgument in its accept step and performs no transaction. -/
def Obligations.ChecksEndCommand : Prop :=
  ∀ (i : Instr) (s : State), s.phase = .idle → i.wellFormed = true → passesChecks s.cfg i = false →
    exec i s = .next { s with
      cmdOp := some i.opcode
      cmdId := some i.id
      cmdBlocking := some i.blocking
      cmdHandler := some i.handler
      cmdLen := some i.len
      cmdData := some i.data
      k := some 0
      lastAttrRc := some 0
      lastAttrSt := some 0
      rspKind := 1
      rspValue := 0
      rspAttrRc := 0
      rspAttrStatus := 0
      rspFailId := 0
      done := true }

/-- When the request on the command port decodes to a well-formed command and PHASE = IDLE, the step takes
the request and is exec of that command; around exec it only removes the request from the port and uses up
one level of the reset input (the model's inputs, log entries 3 and 5). -/
def Obligations.StepRunsDecodedCommand : Prop :=
  ∀ (s : State) (r : Request) (rest : List Request) (i : Instr),
    s.phase = .idle → s.resetIn.head? ≠ some true → s.requests = r :: rest →
    decode r = .ok i → i.wellFormed = true →
    step s = exec i { s with requests := rest, resetIn := s.resetIn.tail }

/-- R37 and R140: while PHASE ≠ IDLE, the step continues the running command, and the engine does not see the
requests the host presents: they are neither queued nor dropped. That exec of every command is then the
transaction of PHASE is the model's choice (log entry 10); the request list and the reset input are the
model's inputs (log entries 3 and 5). -/
def Obligations.BusyEngineIgnoresRequests : Prop :=
  ∀ (i : Instr) (s : State) (reqs : List Request),
    s.phase ≠ .idle → s.resetIn.head? ≠ some true →
    step s = exec i { s with resetIn := s.resetIn.tail } ∧
    step { s with requests := reqs } = mapNext (fun t => { t with requests := reqs }) (step s) ∧
    ∀ t, step s = .next t → t.requests = s.requests

/-- R117, R144: an illegal word completes with IllegalCommand in its accept step, with RSP_VALUE 0, the
operands latched by R141 and no transaction. (A request that breaks R115 is never accepted.) -/
def Obligations.IllegalWordCompletes : Prop :=
  ∀ (s : State) (r : Request) (rest : List Request) (e : Illegal),
    s.phase = .idle → s.resetIn.head? ≠ some true → s.requests = r :: rest →
    r.wellFormed = true → decode r = .error e →
    step s = .next { s with
      requests := rest
      resetIn := s.resetIn.tail
      cmdOp := some (opField r.word)
      cmdId := some (idField r.word)
      cmdBlocking := some (blockingBit r.word)
      cmdHandler := some (handlerBit r.word)
      cmdLen := some (if opField r.word = 5#4 then r.len else 0)
      cmdData := some (if opField r.word = 5#4 then r.data else [])
      k := some 0
      lastAttrRc := some 0
      lastAttrSt := some 0
      rspKind := 6
      rspValue := 0
      rspAttrRc := 0
      rspAttrStatus := 0
      rspFailId := 0
      done := true }

/-- R115: for every opcode except SEND the engine ignores `len` and `data` and the accept step empties
CMD_LEN and CMD_DATA; a SEND request whose data does not hold exactly len bytes is refused at the command
port and never accepted. -/
def Obligations.OperandsBesideTheWord : Prop :=
  ∀ (s : State) (r : Request) (rest : List Request) (len : U32) (data : List U8) (i : Instr),
    s.phase = .idle → s.resetIn.head? ≠ some true → s.requests = r :: rest →
    (opField r.word ≠ 5#4 →
      step { s with requests := ⟨r.word, len, data⟩ :: rest } = step s ∧
      ∃ t, step s = .next t ∧ t.cmdLen = some 0 ∧ t.cmdData = some []) ∧
    (opField r.word = 5#4 → decode r = .ok i → r.len.toNat ≠ r.data.length →
      step s = .refused .malformedRequest ∧ exec i s = .refused .malformedRequest)

/-- R147, first sentence: while PHASE = IDLE and no request is presented, the engine has no step (the model
says so by the refusal quiescent, log entry 3). -/
def Obligations.QuiescentWithoutRequest : Prop :=
  ∀ s : State, s.phase = .idle → s.requests = [] → s.resetIn.head? ≠ some true →
    step s = .refused .quiescent

/-! ### The reset engine (41_reset_engine.md) -/

/-- R171: RS_WAIT_TXQ reads the queue-empty word of RS_ID, uses it in the same step and stores it nowhere;
the bit set leads to RS_TX_ASSERT, the bit clear polls again; the word's other bits are ignored. -/
def Obligations.QueuePolled : Prop :=
  ∀ (s t : State) (id cid : U16) (w : U32), s.phase = .rsWaitTxq → s.rsId = some id →
    s.answerTo (.memRead32 (s.cfg.txqeAddr id)) = .word w →
    t = { s with
      history := s.history ++ [⟨.memRead32 (s.cfg.txqeAddr id), .word w⟩]
      answers := s.answers.tail
      draws := if s.answers.isEmpty then s.draws + 1 else s.draws
      phase := if w &&& txqeMask id ≠ 0 then .rsTxAssert else .rsWaitTxq } →
    exec (.resetOne cid) s = .next t ∧ exec .resetAll s = .next t ∧ exec .prepareHandoff s = .next t

/-- R172: RS_TX_ASSERT writes TX_RESET_PATTERN, zero-extended, to the transmit reset register of RS_ID. -/
def Obligations.TransmitStrobeAsserted : Prop :=
  ∀ (s t : State) (id cid : U16), s.phase = .rsTxAssert → s.rsId = some id →
    t = { s with
      history := s.history ++
        [⟨.memWrite32 (s.cfg.txResetAddr id) (s.cfg.txResetPattern.setWidth 32), .nothing⟩]
      phase := .rsAttr 0 } →
    exec (.resetOne cid) s = .next t ∧ exec .resetAll s = .next t ∧ exec .prepareHandoff s = .next t

/-- R173 with a transport status 0 (and any result code, R178): RS_ATTR_j writes 0 to its attribute, local,
selector RS_ID, in the order connection-state, local-buffer-space, peer-buffer-space, credits-to-send; both
answers are kept apart; then the next attribute, or RS_RX_ASSERT after the last. -/
def Obligations.AttributeCleared : Prop :=
  ∀ (s t : State) (id cid : U16) (j : Fin 4) (attr : U16) (rc : U32),
    s.phase = .rsAttr j → s.rsId = some id →
    [s.cfg.attrConnectionState, s.cfg.attrLocalBufferSpace, s.cfg.attrPeerBufferSpace,
      s.cfg.attrCreditsToSend][j.val]? = some attr →
    s.answerTo (.attrWrite attr 0 id false) = .attrWritten rc 0 →
    t = { s with
      history := s.history ++ [⟨.attrWrite attr 0 id false, .attrWritten rc 0⟩]
      answers := s.answers.tail
      draws := if s.answers.isEmpty then s.draws + 1 else s.draws
      lastAttrRc := some rc
      lastAttrSt := some 0
      phase := if j.val < 3 then .rsAttr (j + 1) else .rsRxAssert } →
    exec (.resetOne cid) s = .next t ∧ exec .resetAll s = .next t ∧ exec .prepareHandoff s = .next t

/-- R174: a non-zero transport status ends the command in the same step with IoError and the failing id,
publishes the failing write's two answers, and makes the id HALF_RESET; no strobe is deasserted. -/
def Obligations.AttributeFailureAborts : Prop :=
  ∀ (s t : State) (id cid : U16) (j : Fin 4) (rc st : U32),
    s.phase = .rsAttr j → s.rsId = some id → st ≠ 0 →
    s.answerTo (.attrWrite (s.cfg.resetAttr j) 0 id false) = .attrWritten rc st →
    t = { s with
      history := s.history ++ [⟨.attrWrite (s.cfg.resetAttr j) 0 id false, .attrWritten rc st⟩]
      answers := s.answers.tail
      draws := if s.answers.isEmpty then s.draws + 1 else s.draws
      lastAttrRc := some rc
      lastAttrSt := some st
      life := s.life.set id.toNat .halfReset
      rspKind := 2
      rspValue := 0
      rspAttrRc := rc
      rspAttrStatus := st
      rspFailId := id
      done := true
      phase := .idle } →
    exec (.resetOne cid) s = .next t ∧ exec .resetAll s = .next t ∧ exec .prepareHandoff s = .next t

/-- R175: RS_RX_ASSERT writes RX_RESET_PATTERN, zero-extended, to the receive reset register of RS_ID. -/
def Obligations.ReceiveStrobeAsserted : Prop :=
  ∀ (s t : State) (id cid : U16), s.phase = .rsRxAssert → s.rsId = some id →
    t = { s with
      history := s.history ++
        [⟨.memWrite32 (s.cfg.rxResetAddr id) (s.cfg.rxResetPattern.setWidth 32), .nothing⟩]
      phase := .rsTxDeassert } →
    exec (.resetOne cid) s = .next t ∧ exec .resetAll s = .next t ∧ exec .prepareHandoff s = .next t

/-- R176: RS_TX_DEASSERT writes 0 to the transmit reset register of RS_ID. -/
def Obligations.TransmitStrobeDeasserted : Prop :=
  ∀ (s t : State) (id cid : U16), s.phase = .rsTxDeassert → s.rsId = some id →
    t = { s with
      history := s.history ++ [⟨.memWrite32 (s.cfg.txResetAddr id) 0, .nothing⟩]
      phase := .rsRxDeassert } →
    exec (.resetOne cid) s = .next t ∧ exec .resetAll s = .next t ∧ exec .prepareHandoff s = .next t

/-- R177 for RESET_ONE: RS_RX_DEASSERT writes 0 to the receive reset register of RS_ID, makes the id
RESET_DONE and completes with Ok, publishing the last attribute answers (R150). -/
def Obligations.ResetOneCompletes : Prop :=
  ∀ (s : State) (id cid : U16) (rc st : U32), s.phase = .rsRxDeassert → s.rsId = some id →
    s.cmdOp = some 1#4 → s.lastAttrRc = some rc → s.lastAttrSt = some st →
    exec (.resetOne cid) s = .next { s with
      history := s.history ++ [⟨.memWrite32 (s.cfg.rxResetAddr id) 0, .nothing⟩]
      life := s.life.set id.toNat .resetDone
      rspKind := 0
      rspValue := 0
      rspAttrRc := rc
      rspAttrStatus := st
      rspFailId := 0
      done := true
      phase := .idle }

/-- R177 and R181 for RESET_ALL and PREPARE_HANDOFF: after the receive deassert of an id, K advances; below
CPORT_MAX the next id's sequence starts, otherwise the command completes with Ok. -/
def Obligations.ResetAllAdvances : Prop :=
  ∀ (s t : State) (id : U16) (op : BitVec 4) (k rc st : U32),
    s.phase = .rsRxDeassert → s.rsId = some id → s.cmdOp = some op → op = 2#4 ∨ op = 9#4 →
    s.k = some k → s.lastAttrRc = some rc → s.lastAttrSt = some st →
    t = { s with
      history := s.history ++ [⟨.memWrite32 (s.cfg.rxResetAddr id) 0, .nothing⟩]
      life := s.life.set id.toNat .resetDone
      k := some (k + 1) } →
    ∃ u, exec .resetAll s = .next u ∧ exec .prepareHandoff s = .next u ∧
      u = if (k + 1).toNat < s.cfg.cportMax then
            { t with rsId := some ((k + 1).setWidth 16), phase := .rsWaitTxq }
          else
            { t with
              rspKind := 0
              rspValue := 0
              rspAttrRc := rc
              rspAttrStatus := st
              rspFailId := 0
              done := true
              phase := .idle }

/-! ### The RX frame dispatcher (42_rx_engine.md) -/

/-- R200: ARM_ADDR writes the CPort table's receive-buffer address to CMD_ID's address register. -/
def Obligations.ReceiveBufferRegistered : Prop :=
  ∀ (s t : State) (id cid : U16) (b h : Bool), s.phase = .armAddr → s.cmdId = some id →
    t = { s with
      history := s.history ++ [⟨.memWrite32 (s.cfg.rxBufAddrReg id) (s.cfg.rxBuf id), .nothing⟩]
      phase := .armPause } →
    exec (.initCport cid) s = .next t ∧ exec (.receive b h cid) s = .next t

/-- R201: ARM_PAUSE writes RX_PAUSE_VALUE to CMD_ID's pause register, makes the id ARMED and completes with
Ok in the same step: value 0 for INIT_CPORT, and for RECEIVE the handler's return code if a handler was
supplied, 0 otherwise. -/
def Obligations.ArmPauseCompletes : Prop :=
  ∀ (s t : State) (id cid : U16) (b h : Bool) (rc st hrc : U32),
    s.phase = .armPause → s.cmdId = some id → s.lastAttrRc = some rc → s.lastAttrSt = some st →
    t = { s with
      history := s.history ++ [⟨.memWrite32 (s.cfg.rxPauseReg id) s.cfg.rxPauseValue, .nothing⟩]
      life := s.life.set id.toNat .armed
      rspKind := 0
      rspValue := 0
      rspAttrRc := rc
      rspAttrStatus := st
      rspFailId := 0
      done := true
      phase := .idle } →
    (s.cmdOp = some 3#4 → exec (.initCport cid) s = .next t) ∧
    (s.cmdOp = some 4#4 → s.cmdHandler = some false → exec (.receive b h cid) s = .next t) ∧
    (s.cmdOp = some 4#4 → s.cmdHandler = some true → s.rxRc = some hrc →
      exec (.receive b h cid) s = .next { t with rspValue := hrc })

/-- R207: RX_POLL_EOM reads the one EOM word that holds CMD_ID's bits into RX_EOMW. -/
def Obligations.EomWordPolled : Prop :=
  ∀ (s : State) (id cid : U16) (b h : Bool) (w : U32), s.phase = .rxPollEom → s.cmdId = some id →
    s.answerTo (.memRead32 (s.cfg.eomWordAddr id)) = .word w →
    exec (.receive b h cid) s = .next { s with
      history := s.history ++ [⟨.memRead32 (s.cfg.eomWordAddr id), .word w⟩]
      answers := s.answers.tail
      draws := if s.answers.isEmpty then s.draws + 1 else s.draws
      rxEomw := some w
      phase := .rxPollEot }

/-- R208 and R209: RX_POLL_EOT reads the EOT word into RX_EOTW and, in the same step, classifies: error EOM,
then EOT, then normal EOM, then the end of a single poll, then the next cycle, with R209's lifecycles. -/
def Obligations.PollClassified : Prop :=
  ∀ (s t : State) (id cid : U16) (b h blocking : Bool) (eomw w rc st : U32),
    s.phase = .rxPollEot → s.cmdId = some id → s.cmdBlocking = some blocking → s.rxEomw = some eomw →
    s.lastAttrRc = some rc → s.lastAttrSt = some st →
    s.answerTo (.memRead32 (s.cfg.eotWordAddr id)) = .word w →
    t = { s with
      history := s.history ++ [⟨.memRead32 (s.cfg.eotWordAddr id), .word w⟩]
      answers := s.answers.tail
      draws := if s.answers.isEmpty then s.draws + 1 else s.draws
      rxEotw := some w } →
    exec (.receive b h cid) s =
      if eomw &&& eomErrorMask id ≠ 0 then
        .next { t with
          life := s.life.set id.toNat .failedRx, rspKind := 3, rspValue := 0, rspAttrRc := rc,
          rspAttrStatus := st, rspFailId := 0, done := true, phase := .idle }
      else if w &&& eotMask id ≠ 0 then
        .next { t with
          life := s.life.set id.toNat .failedRx, rspKind := 4, rspValue := 0, rspAttrRc := rc,
          rspAttrStatus := st, rspFailId := 0, done := true, phase := .idle }
      else if eomw &&& eomNormalMask id ≠ 0 then
        .next { t with life := s.life.set id.toNat .dispatched, phase := .rxCount }
      else if blocking = false then
        .next { t with
          rspKind := 0, rspValue := 0, rspAttrRc := rc, rspAttrStatus := st, rspFailId := 0,
          done := true, phase := .idle }
      else .next { t with phase := .rxPollEom }

/-- R211: RX_COUNT reads CMD_ID's transfer-size register into RX_COUNT, unchanged. -/
def Obligations.TransferCountRead : Prop :=
  ∀ (s : State) (id cid : U16) (b h : Bool) (w : U32), s.phase = .rxCount → s.cmdId = some id →
    s.answerTo (.memRead32 (s.cfg.rxXferSizeReg id)) = .word w →
    exec (.receive b h cid) s = .next { s with
      history := s.history ++ [⟨.memRead32 (s.cfg.rxXferSizeReg id), .word w⟩]
      answers := s.answers.tail
      draws := if s.answers.isEmpty then s.draws + 1 else s.draws
      rxCount := some w
      phase := .rxClear }

/-- R212: RX_CLEAR writes a word with only CMD_ID's normal-EOM bit set to its EOM word, then goes to the
handler if there is one. -/
def Obligations.NormalEomCleared : Prop :=
  ∀ (s : State) (id cid : U16) (b h handler : Bool), s.phase = .rxClear → s.cmdId = some id →
    s.cmdHandler = some handler →
    exec (.receive b h cid) s = .next { s with
      history := s.history ++ [⟨.memWrite32 (s.cfg.eomWordAddr id) (eomNormalMask id), .nothing⟩]
      phase := if handler then .rxHandler else .armAddr }

/-- R213: RX_HANDLER calls the handler with CMD_ID, the CPort's receive buffer and RX_COUNT, and keeps its
return code in RX_RC. (A handler that does not return: OneTransactionPerStep.) -/
def Obligations.HandlerCalled : Prop :=
  ∀ (s : State) (id cid : U16) (b h : Bool) (count rc : U32), s.phase = .rxHandler →
    s.cmdId = some id → s.rxCount = some count →
    s.answerTo (.handlerCall id (s.cfg.rxBuf id) count) = .handlerReturn rc →
    exec (.receive b h cid) s = .next { s with
      history := s.history ++ [⟨.handlerCall id (s.cfg.rxBuf id) count, .handlerReturn rc⟩]
      answers := s.answers.tail
      draws := if s.answers.isEmpty then s.draws + 1 else s.draws
      rxRc := some rc
      phase := .armAddr }

/-! ### The TX frame arbiter (43_tx_engine.md) -/

/-- R242: TX_COPY writes CMD_DATA[K] as one byte at tx_buf(CMD_ID) + K, advances K, and stays while K is
below CMD_LEN. -/
def Obligations.ByteCopied : Prop :=
  ∀ (s : State) (id cid : U16) (len n k : U32) (data ds : List U8) (b : U8), s.phase = .txCopy →
    s.cmdId = some id → s.cmdLen = some len → s.k = some k → s.cmdData = some data →
    data[k.toNat]? = some b →
    exec (.send cid n ds) s = .next { s with
      history := s.history ++ [⟨.memWrite8 (s.cfg.txBuf id + k) b, .nothing⟩]
      k := some (k + 1)
      phase := if (k + 1).toNat < len.toNat then .txCopy else .txEom }

/-- R243: TX_EOM writes EOM_TRIGGER_VALUE as one byte at tx_eom(CMD_ID) and completes with Ok, without
waiting (R244). -/
def Obligations.EndOfMessageSignalled : Prop :=
  ∀ (s : State) (id cid : U16) (n : U32) (ds : List U8) (rc st : U32), s.phase = .txEom →
    s.cmdId = some id → s.lastAttrRc = some rc → s.lastAttrSt = some st →
    exec (.send cid n ds) s = .next { s with
      history := s.history ++ [⟨.memWrite8 (s.cfg.txEom id) s.cfg.eomTriggerValue, .nothing⟩]
      rspKind := 0
      rspValue := 0
      rspAttrRc := rc
      rspAttrStatus := st
      rspFailId := 0
      done := true
      phase := .idle }

/-! ### The CPort assignment mailbox controller (44_assignment.md) -/

/-- R261 to R263: MB_READ reads the mailbox into MB_VALUE. A status other than 0 completes with
MailboxError and that status; otherwise an id `MB_VALUE -32 1` out of range completes with InvalidArgument
and no acknowledgment; otherwise MB_ACK follows. -/
def Obligations.MailboxRead : Prop :=
  ∀ (s t : State) (v st rc₀ st₀ : U32), s.phase = .mbRead →
    s.lastAttrRc = some rc₀ → s.lastAttrSt = some st₀ →
    s.answerTo .mbxRead = .mbxValue v st →
    t = { s with
      history := s.history ++ [⟨.mbxRead, .mbxValue v st⟩]
      answers := s.answers.tail
      draws := if s.answers.isEmpty then s.draws + 1 else s.draws
      mbValue := some v } →
    exec .recvCport s =
      if st ≠ 0 then
        .next { t with
          rspKind := 5, rspValue := st, rspAttrRc := rc₀, rspAttrStatus := st₀, rspFailId := 0,
          done := true, phase := .idle }
      else if s.cfg.cportMax ≤ (v - 1).toNat then
        .next { t with
          rspKind := 1, rspValue := 0, rspAttrRc := rc₀, rspAttrStatus := st₀, rspFailId := 0,
          done := true, phase := .idle }
      else .next { t with phase := .mbAck }

/-- R264 and R265: MB_ACK acknowledges with the low 16 bits of MB_VALUE; a failed acknowledgment completes
with MailboxError and its status when ACK_STATUS_CHECKED holds, otherwise the command completes with Ok and
the 0-based id. -/
def Obligations.MailboxAcknowledged : Prop :=
  ∀ (s t : State) (v ast rc₀ st₀ : U32), s.phase = .mbAck → s.mbValue = some v →
    s.lastAttrRc = some rc₀ → s.lastAttrSt = some st₀ →
    s.answerTo (.mbxAck (v.setWidth 16)) = .mbxStatus ast →
    t = { s with
      history := s.history ++ [⟨.mbxAck (v.setWidth 16), .mbxStatus ast⟩]
      answers := s.answers.tail
      draws := if s.answers.isEmpty then s.draws + 1 else s.draws
      rspAttrRc := rc₀
      rspAttrStatus := st₀
      rspFailId := 0
      done := true
      phase := .idle } →
    exec .recvCport s =
      if s.cfg.ackStatusChecked = true ∧ ast ≠ 0 then .next { t with rspKind := 5, rspValue := ast }
      else .next { t with rspKind := 0, rspValue := v - 1 }

/-! ### The flow-control state machine (45_link_flow_control.md) -/

/-- R281 and R282: LK_POLL reads the power-state attribute, local, and records both answers; a status 0 with
all 32 bits of LINK_UP_VALUE completes with Ok, anything else polls again. -/
def Obligations.LinkPolled : Prop :=
  ∀ (s t : State) (v rc st : U32), s.phase = .lkPoll →
    s.answerTo (.attrRead s.cfg.attrPowerstate s.cfg.powerstateSelector false) = .attrValue v rc st →
    t = { s with
      history := s.history ++
        [⟨.attrRead s.cfg.attrPowerstate s.cfg.powerstateSelector false, .attrValue v rc st⟩]
      answers := s.answers.tail
      draws := if s.answers.isEmpty then s.draws + 1 else s.draws
      lastAttrRc := some rc
      lastAttrSt := some st } →
    exec .waitLinkUp s =
      if st = 0 ∧ v = s.cfg.linkUpValue then
        .next { t with
          rspKind := 0, rspValue := 0, rspAttrRc := rc, rspAttrStatus := st, rspFailId := 0,
          done := true, phase := .idle }
      else .next t

/-- R285: FC_EN0 writes 0 to REG_E2EFC_EN0. -/
def Obligations.FirstEnableRegisterCleared : Prop :=
  ∀ s : State, s.phase = .fcEn0 →
    exec .prepareReadiness s = .next { s with
      history := s.history ++ [⟨.memWrite32 s.cfg.regE2efcEn0 0, .nothing⟩]
      phase := .fcEn1 }

/-- R286: FC_EN1 writes 0 to REG_E2EFC_EN1 and completes with Ok. -/
def Obligations.SecondEnableRegisterCleared : Prop :=
  ∀ (s : State) (rc st : U32), s.phase = .fcEn1 → s.lastAttrRc = some rc → s.lastAttrSt = some st →
    exec .prepareReadiness s = .next { s with
      history := s.history ++ [⟨.memWrite32 s.cfg.regE2efcEn1 0, .nothing⟩]
      rspKind := 0
      rspValue := 0
      rspAttrRc := rc
      rspAttrStatus := st
      rspFailId := 0
      done := true
      phase := .idle }

/-! ### The response, the status flags and reset (10_state.md, 40_command_interface.md, 70_reset_and_hazards.md) -/

/-- R119: the host's register view. STATUS has BUSY (PHASE ≠ IDLE) in bit 0, DONE in bit 1, RSP_KIND in bits
11:8 and 0 elsewhere; the other registers stand at their offsets; a write to one of them has no effect. That
the response fields read as their held values while DONE = 0 is the model's choice (log entry 17). -/
def Obligations.RegisterView : Prop :=
  ∀ s : State,
    (∃ w, s.hostRead 0x00 = some w ∧
      (w.getLsbD 0 = true ↔ s.phase ≠ .idle) ∧ w.getLsbD 1 = s.done ∧
      w.extractLsb' 8 4 = s.rspKind ∧
      ∀ n, n ≠ 0 → n ≠ 1 → ¬ (8 ≤ n ∧ n ≤ 11) → w.getLsbD n = false) ∧
    s.hostRead 0x04 = some s.rspValue ∧
    s.hostRead 0x08 = some s.rspAttrRc ∧
    s.hostRead 0x0C = some s.rspAttrStatus ∧
    (∃ w, s.hostRead 0x10 = some w ∧ w.extractLsb' 0 16 = s.rspFailId ∧ w.extractLsb' 16 16 = 0#16) ∧
    ∀ offset value, s.hostWrite offset value = s

/-- R152: a step without a reset event leaves the response fields as they are, unless it is one that
completes the command, with DONE set and PHASE back at IDLE; only such a step ends in IDLE, and only the
accept step clears DONE. -/
def Obligations.OnlyCompletionPublishes : Prop :=
  ∀ s t : State, s.resetIn.head? ≠ some true → step s = .next t →
    (t.phase = .idle ∧ t.done = true) ∨
    (t.phase ≠ .idle ∧ t.rspKind = s.rspKind ∧ t.rspValue = s.rspValue ∧ t.rspAttrRc = s.rspAttrRc ∧
      t.rspAttrStatus = s.rspAttrStatus ∧ t.rspFailId = s.rspFailId ∧
      (s.phase = .idle → t.done = false) ∧ (s.phase ≠ .idle → t.done = s.done))

/-- R34: the operand registers are written by the accept step only. -/
def Obligations.OperandsHeldWhileBusy : Prop :=
  ∀ s t : State, s.phase ≠ .idle → s.resetIn.head? ≠ some true → step s = .next t →
    t.cmdOp = s.cmdOp ∧ t.cmdId = s.cmdId ∧ t.cmdBlocking = s.cmdBlocking ∧
    t.cmdHandler = s.cmdHandler ∧ t.cmdLen = s.cmdLen ∧ t.cmdData = s.cmdData

/-- R32 and R333: no step, a reset event included, writes the CPort table or any other parameter. -/
def Obligations.ConfigurationIsConstant : Prop :=
  ∀ s t : State, step s = .next t → t.cfg = s.cfg

/-- R7 and R47: a step of a running command appends exactly one record to the event history, and an accept
step appends nothing. A transaction that is never answered keeps the engine where it is (R343, R345, I24): the
step changes nothing but the level of the reset input; that it appends no record is the model's choice (log
entry 4). -/
def Obligations.OneTransactionPerStep : Prop :=
  ∀ s t : State, s.resetIn.head? ≠ some true → step s = .next t →
    (s.phase = .idle → t.history = s.history) ∧
    (s.phase ≠ .idle → s.unanswered = false → ∃ e, t.history = s.history ++ [e]) ∧
    (s.phase ≠ .idle → s.unanswered = true → t = { s with resetIn := s.resetIn.tail })

/-- R45 and R47: the ghost lifecycle changes no engine behaviour and the engine never reads the history:
steps from two states that differ in them only end alike, and their next states differ in them only. -/
def Obligations.GhostsChangeNothing : Prop :=
  ∀ (s : State) (life : List Lifecycle) (history : List Event),
    mapNext (fun t => { t with life := [], history := [] }) (step { s with life := life, history := history }) =
      mapNext (fun t => { t with life := [], history := [] }) (step s)

/-- R48: the reset values, in every configuration, and the model fault that a read of a register without a
value is; State.reset is one of these states (its configuration is the model's choice, log entry 2). -/
def Obligations.ResetValues : Prop :=
  (∃ c, State.reset = State.resetWith c) ∧
  ∀ (c : Config) (s : State), s = State.resetWith c →
    s.phase = .idle ∧ s.busy = false ∧ s.done = false ∧
    s.rspKind = 0 ∧ s.rspValue = 0 ∧ s.rspAttrRc = 0 ∧ s.rspAttrStatus = 0 ∧ s.rspFailId = 0 ∧
    s.cmdOp = none ∧ s.cmdId = none ∧ s.cmdBlocking = none ∧ s.cmdHandler = none ∧
    s.cmdLen = none ∧ s.cmdData = none ∧ s.k = none ∧ s.rsId = none ∧
    s.rxEomw = none ∧ s.rxEotw = none ∧ s.rxCount = none ∧ s.rxRc = none ∧ s.mbValue = none ∧
    s.lastAttrRc = none ∧ s.lastAttrSt = none ∧
    (∀ id : U16, s.lifeOf id = .unarmed) ∧ s.history = [] ∧ s.cfg = c ∧
    ∀ name : RegName, readReg name s.rxCount = .fault (.noValue name)

/-- R330, R331, R333: a reset event may arrive at any step, abandons a running command with no response,
performs no transaction, and leaves the configuration, the environment's answers and the host's requests as
they are. A transaction that is never answered is abandoned with its command (the model's choice, log entry
4). -/
def Obligations.ResetEventAbandonsCommand : Prop :=
  ∀ (s : State) (rest : List Bool), s.resetIn = true :: rest →
    step s = .next { State.resetWith s.cfg with
      requests := s.requests
      answers := if s.unanswered then s.answers.tail else s.answers
      draws := s.draws
      resetIn := rest }

/-- R9, R334: a configuration that fails the check yields no engine; one that passes yields the engine just
after reset. (The check has one condition that R9 does not list, log entry 7.) -/
def Obligations.BadConfigurationRefused : Prop :=
  ∀ c : Config,
    (c.wf = true → State.build c = .next (State.resetWith c)) ∧
    (c.wf = false → State.build c = .refused .badConfiguration)

/-! ### Headlines: the invariant and what follows from it -/

/-- The invariant holds just after reset, in every well-formed configuration. -/
def Obligations.ResetMeetsInvariant : Prop :=
  State.reset.inv = true ∧ ∀ c : Config, c.wf = true → (State.resetWith c).inv = true

/-- Every step keeps the invariant, from every state that meets it (10_state.md R36 to R42). -/
def Obligations.StepKeepsInvariant : Prop :=
  ∀ s t : State, s.inv = true → step s = .next t → t.inv = true

/-- R146, R40: no rule reads a register that holds no value, so no step of an engine state is a model
fault; and by R36 and R37 no phase meets a command for which its rule names no successor (the model's refusal
foreignPhase, log entry 11). -/
def Obligations.NoModelFault : Prop :=
  ∀ s : State, s.inv = true →
    (∀ f, step s ≠ .fault f) ∧ step s ≠ .refused .foreignPhase

/-- R147: an engine state with PHASE ≠ IDLE always has a step, whatever well-shaped answer the environment
gives, and if it never answers (the engine then stays where it is, I24). -/
def Obligations.BusyEngineSteps : Prop :=
  ∀ s : State, s.inv = true → s.phase ≠ .idle → s.answerFits = true → ∃ t, step s = .next t

/-- R79, R82, R71, R72: from every engine state, a step performs only permitted transactions: I/O accesses
inside the regions of R78 with the region's access, 32-bit ones at multiples of 4, no 8-bit read, and local
attribute accesses. -/
def Obligations.TransactionsStayInRegions : Prop :=
  ∀ s t : State, s.inv = true → (∀ e ∈ s.history, e.txn.permitted s.cfg = true) → step s = .next t →
    ∀ e ∈ t.history, e.txn.permitted t.cfg = true

/-- R184, R185: PREPARE_HANDOFF is step for step RESET_ALL; only CMD_OP differs. Both from the accept step
and from any state of the running command. -/
def Obligations.HandoffIsResetAll : Prop :=
  (∀ s : State, s.phase = .idle →
    exec .prepareHandoff s = mapNext (fun t => { t with cmdOp := some 9#4 }) (exec .resetAll s)) ∧
  (∀ s : State, s.phase ≠ .idle → 2#4 ∈ s.phase.usedBy → s.resetIn.head? ≠ some true →
    s.cmdOp = some 2#4 →
    step { s with cmdOp := some 9#4 } = mapNext (fun t => { t with cmdOp := some 9#4 }) (step s))

/-! ### Commands run to completion, and waits without a bound (70_reset_and_hazards.md R345, R352) -/

/-- R240, R352: a SEND of n bytes that is accepted completes with Ok n + 1 steps after its accept step; its
transactions are the n byte writes in ascending order and then the EOM trigger. -/
def Obligations.SendRunsToCompletion : Prop :=
  ∀ (s : State) (id : U16) (len : U32) (data : List U8) (rest : List Request),
    s.phase = .idle → s.resetIn = [] → s.requests = encode (.send id len data) :: rest →
    len.toNat = data.length → s.cfg.idInRange id = true → data.length ≤ s.cfg.txBufSize →
    ∃ t, runSteps (1 + (data.length + 1)) s = .next t ∧
      t.phase = .idle ∧ t.done = true ∧ t.rspKind = 0 ∧ t.rspValue = 0 ∧ t.requests = rest ∧
      t.answers = s.answers ∧ t.life = s.life ∧
      t.history = s.history ++ copyRecords (s.cfg.txBuf id) 0 data ++
        [⟨.memWrite8 (s.cfg.txEom id) s.cfg.eomTriggerValue, .nothing⟩]

/-- R170, R352: a RESET_ONE whose queue is seen empty at poll p and whose attribute writes succeed completes
with Ok p + 8 steps after its accept step, with exactly these transactions. -/
def Obligations.ResetOneRunsToCompletion : Prop :=
  ∀ (s : State) (id : U16) (ws : List U32) (w : U32) (rc : Fin 4 → U32) (more : List Answer)
    (rest : List Request),
    s.phase = .idle → s.resetIn = [] → s.requests = encode (.resetOne id) :: rest →
    s.cfg.idInRange id = true →
    (∀ v ∈ ws, v &&& txqeMask id = 0) → w &&& txqeMask id ≠ 0 →
    s.answers = ws.map .word ++ resetAnswers w rc ++ more →
    ∃ t, runSteps (1 + (ws.length + 1 + 8)) s = .next t ∧
      t.phase = .idle ∧ t.done = true ∧ t.rspKind = 0 ∧ t.rspValue = 0 ∧ t.rspAttrRc = rc 3 ∧
      t.rspAttrStatus = 0 ∧ t.rspFailId = 0 ∧ t.requests = rest ∧ t.answers = more ∧
      t.life = s.life.set id.toNat .resetDone ∧
      t.history = s.history ++ ws.map (fun v => ⟨.memRead32 (s.cfg.txqeAddr id), .word v⟩) ++
        resetRecords s.cfg id w rc

/-- R180, R183: RESET_ALL with every queue empty at its first poll and every attribute write succeeding
resets the ids 0 to CPORT_MAX − 1 in ascending order, 9 transactions each, and completes with Ok, publishing
the answer of the last attribute write. -/
def Obligations.ResetAllRunsToCompletion : Prop :=
  ∀ (s : State) (w : Nat → U32) (rc : Nat → Fin 4 → U32) (more : List Answer) (rest : List Request),
    s.inv = true → s.phase = .idle → s.resetIn = [] → s.requests = encode .resetAll :: rest →
    (∀ n < s.cfg.cportMax, w n &&& txqeMask (BitVec.ofNat 16 n) ≠ 0) →
    s.answers = (List.range s.cfg.cportMax).flatMap (fun n => resetAnswers (w n) (rc n)) ++ more →
    ∃ t, runSteps (1 + 9 * s.cfg.cportMax) s = .next t ∧
      t.phase = .idle ∧ t.done = true ∧ t.rspKind = 0 ∧ t.rspValue = 0 ∧
      t.rspAttrRc = rc (s.cfg.cportMax - 1) 3 ∧ t.rspAttrStatus = 0 ∧ t.rspFailId = 0 ∧
      t.requests = rest ∧ t.answers = more ∧
      t.life = List.replicate s.cfg.cportMax .resetDone ∧
      t.history = s.history ++ (List.range s.cfg.cportMax).flatMap
        (fun n => resetRecords s.cfg (BitVec.ofNat 16 n) (w n) (rc n))

/-- R182, R174: when the reset of id k fails at attribute write j, RESET_ALL ends there with IoError and
RSP_FAIL_ID = k; the ids below k have completed their sequences, no transaction addresses an id above k, and
k is left HALF_RESET. -/
def Obligations.ResetAllStopsAtFirstFailure : Prop :=
  ∀ (s : State) (k : Nat) (j : Fin 4) (w : Nat → U32) (rc : Nat → Fin 4 → U32) (failRc failSt : U32)
    (more : List Answer) (rest : List Request),
    s.inv = true → s.phase = .idle → s.resetIn = [] → s.requests = encode .resetAll :: rest →
    k < s.cfg.cportMax → failSt ≠ 0 →
    (∀ n ≤ k, w n &&& txqeMask (BitVec.ofNat 16 n) ≠ 0) →
    s.answers = (List.range k).flatMap (fun n => resetAnswers (w n) (rc n)) ++
      failedResetAnswers (w k) (rc k) j failRc failSt ++ more →
    ∃ t, runSteps (1 + (9 * k + (1 + 2 + j.val))) s = .next t ∧
      t.phase = .idle ∧ t.done = true ∧ t.rspKind = 2 ∧ t.rspValue = 0 ∧
      t.rspAttrRc = failRc ∧ t.rspAttrStatus = failSt ∧ t.rspFailId = BitVec.ofNat 16 k ∧
      t.requests = rest ∧ t.answers = more ∧
      t.life = List.replicate k .resetDone ++ [.halfReset] ++ s.life.drop (k + 1) ∧
      t.history = s.history ++ (List.range k).flatMap
          (fun n => resetRecords s.cfg (BitVec.ofNat 16 n) (w n) (rc n)) ++
        failedResetRecords s.cfg (BitVec.ofNat 16 k) (w k) (rc k) j failRc failSt

/-- R205, R213, R214, R352: a RECEIVE with a handler that sees a normal EOM in its first poll cycle reads the
count, clears its own EOM bit, calls the handler with the count as read, re-arms with the same buffer
address, and completes with Ok and the handler's return code, 7 steps after its accept step. -/
def Obligations.DispatchRunsToCompletion : Prop :=
  ∀ (s : State) (id : U16) (blocking : Bool) (eomw eotw count hrc : U32) (more : List Answer)
    (rest : List Request),
    s.phase = .idle → s.resetIn = [] → s.requests = encode (.receive blocking true id) :: rest →
    s.cfg.idInRange id = true →
    eomw &&& eomErrorMask id = 0 → eotw &&& eotMask id = 0 → eomw &&& eomNormalMask id ≠ 0 →
    s.answers = .word eomw :: .word eotw :: .word count :: .handlerReturn hrc :: more →
    ∃ t, runSteps (1 + 7) s = .next t ∧
      t.phase = .idle ∧ t.done = true ∧ t.rspKind = 0 ∧ t.rspValue = hrc ∧ t.requests = rest ∧
      t.answers = more ∧ t.life = (s.life.set id.toNat .dispatched).set id.toNat .armed ∧
      t.history = s.history ++
        [ ⟨.memRead32 (s.cfg.eomWordAddr id), .word eomw⟩,
          ⟨.memRead32 (s.cfg.eotWordAddr id), .word eotw⟩,
          ⟨.memRead32 (s.cfg.rxXferSizeReg id), .word count⟩,
          ⟨.memWrite32 (s.cfg.eomWordAddr id) (eomNormalMask id), .nothing⟩,
          ⟨.handlerCall id (s.cfg.rxBuf id) count, .handlerReturn hrc⟩,
          ⟨.memWrite32 (s.cfg.rxBufAddrReg id) (s.cfg.rxBuf id), .nothing⟩,
          ⟨.memWrite32 (s.cfg.rxPauseReg id) s.cfg.rxPauseValue, .nothing⟩ ]

/-- R280, R283, R352: WAIT_LINK_UP completes with Ok exactly at the first successful read of the sentinel,
one step for each read, whatever the earlier reads answered. -/
def Obligations.LinkWaitRunsToCompletion : Prop :=
  ∀ (s : State) (vs : List (U32 × U32 × U32)) (rc : U32) (more : List Answer) (rest : List Request),
    s.phase = .idle → s.resetIn = [] → s.requests = encode .waitLinkUp :: rest →
    (∀ a ∈ vs, ¬ (a.2.2 = 0 ∧ a.1 = s.cfg.linkUpValue)) →
    s.answers = vs.map (fun a => .attrValue a.1 a.2.1 a.2.2) ++ .attrValue s.cfg.linkUpValue rc 0 :: more →
    ∃ t, runSteps (1 + (vs.length + 1)) s = .next t ∧
      t.phase = .idle ∧ t.done = true ∧ t.rspKind = 0 ∧ t.rspValue = 0 ∧ t.rspAttrRc = rc ∧
      t.rspAttrStatus = 0 ∧ t.requests = rest ∧ t.answers = more ∧
      t.history.length = s.history.length + (vs.length + 1)

/-- R345, R171: the queue-empty wait has no bound: however many polls read the bit clear, the reset sequence
is still in RS_WAIT_TXQ and not done. -/
def Obligations.QueueWaitHasNoBound : Prop :=
  ∀ (s : State) (id : U16) (ws : List U32) (more : List Answer),
    s.phase = .rsWaitTxq → s.rsId = some id → s.resetIn = [] →
    (∀ v ∈ ws, v &&& txqeMask id = 0) → s.answers = ws.map .word ++ more →
    ∃ t, runSteps ws.length s = .next t ∧ t.phase = .rsWaitTxq ∧ t.done = s.done ∧ t.rsId = some id ∧
      t.answers = more ∧
      t.history = s.history ++ ws.map (fun v => ⟨.memRead32 (s.cfg.txqeAddr id), .word v⟩)

/-- R345, R216: a blocking RECEIVE that sees no terminal condition never completes: after any number of
poll cycles it is at RX_POLL_EOM again and not done. -/
def Obligations.BlockingReceiveHasNoBound : Prop :=
  ∀ (s : State) (id : U16) (cycles : List (U32 × U32)) (more : List Answer),
    s.phase = .rxPollEom → s.cmdId = some id → s.cmdBlocking = some true → s.resetIn = [] →
    (∀ c ∈ cycles, c.1 &&& eomErrorMask id = 0 ∧ c.2 &&& eotMask id = 0 ∧
      c.1 &&& eomNormalMask id = 0) →
    s.answers = cycles.flatMap (fun c => [.word c.1, .word c.2]) ++ more →
    ∃ t, runSteps (2 * cycles.length) s = .next t ∧ t.phase = .rxPollEom ∧ t.done = s.done ∧
      t.life = s.life ∧ t.answers = more ∧
      t.history.length = s.history.length + 2 * cycles.length

/-! ### Masks and the meaning of the clear (20_memory.md) -/

/-- R77, R210: within one status word, the masks of different CPorts and of different kinds share no bit, so
a poll reads no other CPort's bits. -/
def Obligations.MasksAreSeparate : Prop :=
  ∀ a b : U16,
    eomNormalMask a &&& eomErrorMask b = 0 ∧
    (a.toNat % 16 ≠ b.toNat % 16 →
      eomNormalMask a &&& eomNormalMask b = 0 ∧ eomErrorMask a &&& eomErrorMask b = 0) ∧
    (a.toNat % 32 ≠ b.toNat % 32 → txqeMask a &&& txqeMask b = 0 ∧ eotMask a &&& eotMask b = 0)

/-- R91, R212: writing a CPort's normal-EOM mask to its EOM word clears, by the write-one-to-clear rule,
exactly that CPort's normal-EOM bit and leaves every other bit of the word. -/
def Obligations.ClearTouchesOwnBitOnly : Prop :=
  ∀ (id : U16) (old : U32) (n : Nat), n < 32 →
    (writeOneToClear old (eomNormalMask id)).getLsbD n =
      if n = 2 * (id.toNat % 16) then false else old.getLsbD n

/-- R246: only SEND writes a byte: a step that appends an 8-bit write is in TX_COPY or TX_EOM. -/
def Obligations.OnlySendWritesBytes : Prop :=
  ∀ (s t : State) (a : U32) (v : U8) (ans : Answer), s.resetIn.head? ≠ some true → step s = .next t →
    t.history = s.history ++ [⟨.memWrite8 a v, ans⟩] → s.phase = .txCopy ∨ s.phase = .txEom
end

