-- ==== Sys2Proof/Laws/Decode.lean ====
section
/-! SUPPORT. The fields of an encoded command word (30_encoding.md R111). -/

namespace Sys2Proof

/-- Bit `n` of an encoded command word, by field. -/
theorem getLsbD_encodeWord (op : BitVec 4) (b h : Bool) (id : U16) (n : Nat) :
    (encodeWord op b h id).getLsbD n =
      if n < 16 then id.getLsbD n
      else if n < 26 then false
      else if n = 26 then h
      else if n = 27 then b
      else op.getLsbD (n - 28) := by
  unfold encodeWord
  simp only [BitVec.getLsbD_append, BitVec.getLsbD_ofBool, BitVec.getLsbD_zero]
  by_cases h16 : n < 16
  · simp [h16]
  · by_cases h26 : n < 26
    · simp [h16, h26, show n - 16 < 10 by omega]
    · by_cases e26 : n = 26
      · simp [e26]
      · by_cases e27 : n = 27
        · simp [e27]
        · simp [h16, h26, e26, e27, show ¬ n - 16 < 10 by omega, show ¬ n - 16 - 10 = 0 by omega,
            show ¬ n - 16 - 10 - 1 = 0 by omega, show n - 16 - 10 - 1 - 1 = n - 28 by omega]

theorem opField_encodeWord (op : BitVec 4) (b h : Bool) (id : U16) :
    opField (encodeWord op b h id) = op := by
  apply BitVec.eq_of_getLsbD_eq
  intro n hn
  rw [opField, BitVec.getLsbD_extractLsb', getLsbD_encodeWord]
  simp [hn, show ¬ 28 + n < 16 by omega, show ¬ 28 + n < 26 by omega, show ¬ 28 + n = 26 by omega,
    show ¬ 28 + n = 27 by omega]

theorem idField_encodeWord (op : BitVec 4) (b h : Bool) (id : U16) :
    idField (encodeWord op b h id) = id := by
  apply BitVec.eq_of_getLsbD_eq
  intro n hn
  rw [idField, BitVec.getLsbD_extractLsb', getLsbD_encodeWord]
  simp [hn]

theorem rsvField_encodeWord (op : BitVec 4) (b h : Bool) (id : U16) :
    rsvField (encodeWord op b h id) = 0#10 := by
  apply BitVec.eq_of_getLsbD_eq
  intro n hn
  rw [rsvField, BitVec.getLsbD_extractLsb', getLsbD_encodeWord]
  simp [hn, show ¬ 16 + n < 16 by omega, show 16 + n < 26 by omega]

theorem blockingBit_encodeWord (op : BitVec 4) (b h : Bool) (id : U16) :
    blockingBit (encodeWord op b h id) = b := by
  rw [blockingBit, getLsbD_encodeWord]; simp

theorem handlerBit_encodeWord (op : BitVec 4) (b h : Bool) (id : U16) :
    handlerBit (encodeWord op b h id) = h := by
  rw [handlerBit, getLsbD_encodeWord]; simp

end Sys2Proof
end

