-- ==== Sys2Proof/Laws/State.lean ====
section
/-! SUPPORT. What each named update of State does to each field: one lemma per field per update. -/

namespace Sys2Proof.Machine

open Sys2Proof

/-! ### `State.wrote`: a performed write (10_state.md R47) -/

section

variable (s : State) (t : Txn)

@[simp] theorem State.wrote_cfg : (s.wrote t).cfg = s.cfg := rfl
@[simp] theorem State.wrote_cmdOp : (s.wrote t).cmdOp = s.cmdOp := rfl
@[simp] theorem State.wrote_cmdId : (s.wrote t).cmdId = s.cmdId := rfl
@[simp] theorem State.wrote_cmdBlocking : (s.wrote t).cmdBlocking = s.cmdBlocking := rfl
@[simp] theorem State.wrote_cmdHandler : (s.wrote t).cmdHandler = s.cmdHandler := rfl
@[simp] theorem State.wrote_cmdLen : (s.wrote t).cmdLen = s.cmdLen := rfl
@[simp] theorem State.wrote_cmdData : (s.wrote t).cmdData = s.cmdData := rfl
@[simp] theorem State.wrote_phase : (s.wrote t).phase = s.phase := rfl
@[simp] theorem State.wrote_k : (s.wrote t).k = s.k := rfl
@[simp] theorem State.wrote_rsId : (s.wrote t).rsId = s.rsId := rfl
@[simp] theorem State.wrote_rxEomw : (s.wrote t).rxEomw = s.rxEomw := rfl
@[simp] theorem State.wrote_rxEotw : (s.wrote t).rxEotw = s.rxEotw := rfl
@[simp] theorem State.wrote_rxCount : (s.wrote t).rxCount = s.rxCount := rfl
@[simp] theorem State.wrote_rxRc : (s.wrote t).rxRc = s.rxRc := rfl
@[simp] theorem State.wrote_mbValue : (s.wrote t).mbValue = s.mbValue := rfl
@[simp] theorem State.wrote_lastAttrRc : (s.wrote t).lastAttrRc = s.lastAttrRc := rfl
@[simp] theorem State.wrote_lastAttrSt : (s.wrote t).lastAttrSt = s.lastAttrSt := rfl
@[simp] theorem State.wrote_rspKind : (s.wrote t).rspKind = s.rspKind := rfl
@[simp] theorem State.wrote_rspValue : (s.wrote t).rspValue = s.rspValue := rfl
@[simp] theorem State.wrote_rspAttrRc : (s.wrote t).rspAttrRc = s.rspAttrRc := rfl
@[simp] theorem State.wrote_rspAttrStatus : (s.wrote t).rspAttrStatus = s.rspAttrStatus := rfl
@[simp] theorem State.wrote_rspFailId : (s.wrote t).rspFailId = s.rspFailId := rfl
@[simp] theorem State.wrote_done : (s.wrote t).done = s.done := rfl
@[simp] theorem State.wrote_life : (s.wrote t).life = s.life := rfl
@[simp] theorem State.wrote_history : (s.wrote t).history = s.history ++ [⟨t, .nothing⟩] := rfl
@[simp] theorem State.wrote_requests : (s.wrote t).requests = s.requests := rfl
@[simp] theorem State.wrote_answers : (s.wrote t).answers = s.answers := rfl
@[simp] theorem State.wrote_draws : (s.wrote t).draws = s.draws := rfl
@[simp] theorem State.wrote_resetIn : (s.wrote t).resetIn = s.resetIn := rfl

end

/-! ### `State.asked`: a performed transaction with an answer (10_state.md R47) -/

section

variable (s : State) (t : Txn)

@[simp] theorem State.asked_cfg : (s.asked t).cfg = s.cfg := rfl
@[simp] theorem State.asked_cmdOp : (s.asked t).cmdOp = s.cmdOp := rfl
@[simp] theorem State.asked_cmdId : (s.asked t).cmdId = s.cmdId := rfl
@[simp] theorem State.asked_cmdBlocking : (s.asked t).cmdBlocking = s.cmdBlocking := rfl
@[simp] theorem State.asked_cmdHandler : (s.asked t).cmdHandler = s.cmdHandler := rfl
@[simp] theorem State.asked_cmdLen : (s.asked t).cmdLen = s.cmdLen := rfl
@[simp] theorem State.asked_cmdData : (s.asked t).cmdData = s.cmdData := rfl
@[simp] theorem State.asked_phase : (s.asked t).phase = s.phase := rfl
@[simp] theorem State.asked_k : (s.asked t).k = s.k := rfl
@[simp] theorem State.asked_rsId : (s.asked t).rsId = s.rsId := rfl
@[simp] theorem State.asked_rxEomw : (s.asked t).rxEomw = s.rxEomw := rfl
@[simp] theorem State.asked_rxEotw : (s.asked t).rxEotw = s.rxEotw := rfl
@[simp] theorem State.asked_rxCount : (s.asked t).rxCount = s.rxCount := rfl
@[simp] theorem State.asked_rxRc : (s.asked t).rxRc = s.rxRc := rfl
@[simp] theorem State.asked_mbValue : (s.asked t).mbValue = s.mbValue := rfl
@[simp] theorem State.asked_lastAttrRc : (s.asked t).lastAttrRc = s.lastAttrRc := rfl
@[simp] theorem State.asked_lastAttrSt : (s.asked t).lastAttrSt = s.lastAttrSt := rfl
@[simp] theorem State.asked_rspKind : (s.asked t).rspKind = s.rspKind := rfl
@[simp] theorem State.asked_rspValue : (s.asked t).rspValue = s.rspValue := rfl
@[simp] theorem State.asked_rspAttrRc : (s.asked t).rspAttrRc = s.rspAttrRc := rfl
@[simp] theorem State.asked_rspAttrStatus : (s.asked t).rspAttrStatus = s.rspAttrStatus := rfl
@[simp] theorem State.asked_rspFailId : (s.asked t).rspFailId = s.rspFailId := rfl
@[simp] theorem State.asked_done : (s.asked t).done = s.done := rfl
@[simp] theorem State.asked_life : (s.asked t).life = s.life := rfl
@[simp] theorem State.asked_history : (s.asked t).history = s.history ++ [⟨t, s.answerTo t⟩] := rfl
@[simp] theorem State.asked_requests : (s.asked t).requests = s.requests := rfl
@[simp] theorem State.asked_answers : (s.asked t).answers = s.answers.tail := rfl
@[simp] theorem State.asked_draws :
    (s.asked t).draws = if s.answers.isEmpty then s.draws + 1 else s.draws := rfl
@[simp] theorem State.asked_resetIn : (s.asked t).resetIn = s.resetIn := rfl

end

/-! ### `State.attrAsked`: a performed attribute transaction (20_memory.md R73) -/

section

variable (s : State) (t : Txn) (rc st : U32)

@[simp] theorem State.attrAsked_cfg : (s.attrAsked t rc st).cfg = s.cfg := rfl
@[simp] theorem State.attrAsked_cmdOp : (s.attrAsked t rc st).cmdOp = s.cmdOp := rfl
@[simp] theorem State.attrAsked_cmdId : (s.attrAsked t rc st).cmdId = s.cmdId := rfl
@[simp] theorem State.attrAsked_cmdBlocking :
    (s.attrAsked t rc st).cmdBlocking = s.cmdBlocking := rfl
@[simp] theorem State.attrAsked_cmdHandler : (s.attrAsked t rc st).cmdHandler = s.cmdHandler := rfl
@[simp] theorem State.attrAsked_cmdLen : (s.attrAsked t rc st).cmdLen = s.cmdLen := rfl
@[simp] theorem State.attrAsked_cmdData : (s.attrAsked t rc st).cmdData = s.cmdData := rfl
@[simp] theorem State.attrAsked_phase : (s.attrAsked t rc st).phase = s.phase := rfl
@[simp] theorem State.attrAsked_k : (s.attrAsked t rc st).k = s.k := rfl
@[simp] theorem State.attrAsked_rsId : (s.attrAsked t rc st).rsId = s.rsId := rfl
@[simp] theorem State.attrAsked_rxEomw : (s.attrAsked t rc st).rxEomw = s.rxEomw := rfl
@[simp] theorem State.attrAsked_rxEotw : (s.attrAsked t rc st).rxEotw = s.rxEotw := rfl
@[simp] theorem State.attrAsked_rxCount : (s.attrAsked t rc st).rxCount = s.rxCount := rfl
@[simp] theorem State.attrAsked_rxRc : (s.attrAsked t rc st).rxRc = s.rxRc := rfl
@[simp] theorem State.attrAsked_mbValue : (s.attrAsked t rc st).mbValue = s.mbValue := rfl
@[simp] theorem State.attrAsked_lastAttrRc : (s.attrAsked t rc st).lastAttrRc = some rc := rfl
@[simp] theorem State.attrAsked_lastAttrSt : (s.attrAsked t rc st).lastAttrSt = some st := rfl
@[simp] theorem State.attrAsked_rspKind : (s.attrAsked t rc st).rspKind = s.rspKind := rfl
@[simp] theorem State.attrAsked_rspValue : (s.attrAsked t rc st).rspValue = s.rspValue := rfl
@[simp] theorem State.attrAsked_rspAttrRc : (s.attrAsked t rc st).rspAttrRc = s.rspAttrRc := rfl
@[simp] theorem State.attrAsked_rspAttrStatus :
    (s.attrAsked t rc st).rspAttrStatus = s.rspAttrStatus := rfl
@[simp] theorem State.attrAsked_rspFailId : (s.attrAsked t rc st).rspFailId = s.rspFailId := rfl
@[simp] theorem State.attrAsked_done : (s.attrAsked t rc st).done = s.done := rfl
@[simp] theorem State.attrAsked_life : (s.attrAsked t rc st).life = s.life := rfl
@[simp] theorem State.attrAsked_history :
    (s.attrAsked t rc st).history = s.history ++ [⟨t, s.answerTo t⟩] := rfl
@[simp] theorem State.attrAsked_requests : (s.attrAsked t rc st).requests = s.requests := rfl
@[simp] theorem State.attrAsked_answers : (s.attrAsked t rc st).answers = s.answers.tail := rfl
@[simp] theorem State.attrAsked_draws :
    (s.attrAsked t rc st).draws = if s.answers.isEmpty then s.draws + 1 else s.draws := rfl
@[simp] theorem State.attrAsked_resetIn : (s.attrAsked t rc st).resetIn = s.resetIn := rfl

end

/-! ### `State.setLife`: a move of the ghost lifecycle (10_state.md R45) -/

section

variable (s : State) (id : U16) (v : Lifecycle)

@[simp] theorem State.setLife_cfg : (s.setLife id v).cfg = s.cfg := rfl
@[simp] theorem State.setLife_cmdOp : (s.setLife id v).cmdOp = s.cmdOp := rfl
@[simp] theorem State.setLife_cmdId : (s.setLife id v).cmdId = s.cmdId := rfl
@[simp] theorem State.setLife_cmdBlocking : (s.setLife id v).cmdBlocking = s.cmdBlocking := rfl
@[simp] theorem State.setLife_cmdHandler : (s.setLife id v).cmdHandler = s.cmdHandler := rfl
@[simp] theorem State.setLife_cmdLen : (s.setLife id v).cmdLen = s.cmdLen := rfl
@[simp] theorem State.setLife_cmdData : (s.setLife id v).cmdData = s.cmdData := rfl
@[simp] theorem State.setLife_phase : (s.setLife id v).phase = s.phase := rfl
@[simp] theorem State.setLife_k : (s.setLife id v).k = s.k := rfl
@[simp] theorem State.setLife_rsId : (s.setLife id v).rsId = s.rsId := rfl
@[simp] theorem State.setLife_rxEomw : (s.setLife id v).rxEomw = s.rxEomw := rfl
@[simp] theorem State.setLife_rxEotw : (s.setLife id v).rxEotw = s.rxEotw := rfl
@[simp] theorem State.setLife_rxCount : (s.setLife id v).rxCount = s.rxCount := rfl
@[simp] theorem State.setLife_rxRc : (s.setLife id v).rxRc = s.rxRc := rfl
@[simp] theorem State.setLife_mbValue : (s.setLife id v).mbValue = s.mbValue := rfl
@[simp] theorem State.setLife_lastAttrRc : (s.setLife id v).lastAttrRc = s.lastAttrRc := rfl
@[simp] theorem State.setLife_lastAttrSt : (s.setLife id v).lastAttrSt = s.lastAttrSt := rfl
@[simp] theorem State.setLife_rspKind : (s.setLife id v).rspKind = s.rspKind := rfl
@[simp] theorem State.setLife_rspValue : (s.setLife id v).rspValue = s.rspValue := rfl
@[simp] theorem State.setLife_rspAttrRc : (s.setLife id v).rspAttrRc = s.rspAttrRc := rfl
@[simp] theorem State.setLife_rspAttrStatus :
    (s.setLife id v).rspAttrStatus = s.rspAttrStatus := rfl
@[simp] theorem State.setLife_rspFailId : (s.setLife id v).rspFailId = s.rspFailId := rfl
@[simp] theorem State.setLife_done : (s.setLife id v).done = s.done := rfl
@[simp] theorem State.setLife_life : (s.setLife id v).life = s.life.set id.toNat v := rfl
@[simp] theorem State.setLife_history : (s.setLife id v).history = s.history := rfl
@[simp] theorem State.setLife_requests : (s.setLife id v).requests = s.requests := rfl
@[simp] theorem State.setLife_answers : (s.setLife id v).answers = s.answers := rfl
@[simp] theorem State.setLife_draws : (s.setLife id v).draws = s.draws := rfl
@[simp] theorem State.setLife_resetIn : (s.setLife id v).resetIn = s.resetIn := rfl

end

/-! ### `State.latch`: the accept step (40_command_interface.md R141) -/

section

variable (s : State) (r : Request)

@[simp] theorem State.latch_cfg : (s.latch r).cfg = s.cfg := rfl
@[simp] theorem State.latch_cmdOp : (s.latch r).cmdOp = some (opField r.word) := rfl
@[simp] theorem State.latch_cmdId : (s.latch r).cmdId = some (idField r.word) := rfl
@[simp] theorem State.latch_cmdBlocking : (s.latch r).cmdBlocking = some (blockingBit r.word) := rfl
@[simp] theorem State.latch_cmdHandler : (s.latch r).cmdHandler = some (handlerBit r.word) := rfl
@[simp] theorem State.latch_cmdLen :
    (s.latch r).cmdLen = some (if opField r.word = 5#4 then r.len else 0#32) := rfl
@[simp] theorem State.latch_cmdData :
    (s.latch r).cmdData = some (if opField r.word = 5#4 then r.data else []) := rfl
@[simp] theorem State.latch_phase : (s.latch r).phase = s.phase := rfl
@[simp] theorem State.latch_k : (s.latch r).k = some 0#32 := rfl
@[simp] theorem State.latch_rsId : (s.latch r).rsId = s.rsId := rfl
@[simp] theorem State.latch_rxEomw : (s.latch r).rxEomw = s.rxEomw := rfl
@[simp] theorem State.latch_rxEotw : (s.latch r).rxEotw = s.rxEotw := rfl
@[simp] theorem State.latch_rxCount : (s.latch r).rxCount = s.rxCount := rfl
@[simp] theorem State.latch_rxRc : (s.latch r).rxRc = s.rxRc := rfl
@[simp] theorem State.latch_mbValue : (s.latch r).mbValue = s.mbValue := rfl
@[simp] theorem State.latch_lastAttrRc : (s.latch r).lastAttrRc = some 0#32 := rfl
@[simp] theorem State.latch_lastAttrSt : (s.latch r).lastAttrSt = some 0#32 := rfl
@[simp] theorem State.latch_rspKind : (s.latch r).rspKind = s.rspKind := rfl
@[simp] theorem State.latch_rspValue : (s.latch r).rspValue = s.rspValue := rfl
@[simp] theorem State.latch_rspAttrRc : (s.latch r).rspAttrRc = s.rspAttrRc := rfl
@[simp] theorem State.latch_rspAttrStatus : (s.latch r).rspAttrStatus = s.rspAttrStatus := rfl
@[simp] theorem State.latch_rspFailId : (s.latch r).rspFailId = s.rspFailId := rfl
@[simp] theorem State.latch_done : (s.latch r).done = false := rfl
@[simp] theorem State.latch_life : (s.latch r).life = s.life := rfl
@[simp] theorem State.latch_history : (s.latch r).history = s.history := rfl
@[simp] theorem State.latch_requests : (s.latch r).requests = s.requests := rfl
@[simp] theorem State.latch_answers : (s.latch r).answers = s.answers := rfl
@[simp] theorem State.latch_draws : (s.latch r).draws = s.draws := rfl
@[simp] theorem State.latch_resetIn : (s.latch r).resetIn = s.resetIn := rfl

end

/-! ### `State.completed`: `complete` (40_command_interface.md R150) -/

section

variable (s : State) (kind : Kind) (value : U32) (failId : U16) (rc st : U32)

@[simp] theorem State.completed_cfg : (s.completed kind value failId rc st).cfg = s.cfg := rfl
@[simp] theorem State.completed_cmdOp : (s.completed kind value failId rc st).cmdOp = s.cmdOp := rfl
@[simp] theorem State.completed_cmdId : (s.completed kind value failId rc st).cmdId = s.cmdId := rfl
@[simp] theorem State.completed_cmdBlocking :
    (s.completed kind value failId rc st).cmdBlocking = s.cmdBlocking := rfl
@[simp] theorem State.completed_cmdHandler :
    (s.completed kind value failId rc st).cmdHandler = s.cmdHandler := rfl
@[simp] theorem State.completed_cmdLen :
    (s.completed kind value failId rc st).cmdLen = s.cmdLen := rfl
@[simp] theorem State.completed_cmdData :
    (s.completed kind value failId rc st).cmdData = s.cmdData := rfl
@[simp] theorem State.completed_phase : (s.completed kind value failId rc st).phase = .idle := rfl
@[simp] theorem State.completed_k : (s.completed kind value failId rc st).k = s.k := rfl
@[simp] theorem State.completed_rsId : (s.completed kind value failId rc st).rsId = s.rsId := rfl
@[simp] theorem State.completed_rxEomw :
    (s.completed kind value failId rc st).rxEomw = s.rxEomw := rfl
@[simp] theorem State.completed_rxEotw :
    (s.completed kind value failId rc st).rxEotw = s.rxEotw := rfl
@[simp] theorem State.completed_rxCount :
    (s.completed kind value failId rc st).rxCount = s.rxCount := rfl
@[simp] theorem State.completed_rxRc : (s.completed kind value failId rc st).rxRc = s.rxRc := rfl
@[simp] theorem State.completed_mbValue :
    (s.completed kind value failId rc st).mbValue = s.mbValue := rfl
@[simp] theorem State.completed_lastAttrRc :
    (s.completed kind value failId rc st).lastAttrRc = s.lastAttrRc := rfl
@[simp] theorem State.completed_lastAttrSt :
    (s.completed kind value failId rc st).lastAttrSt = s.lastAttrSt := rfl
@[simp] theorem State.completed_rspKind :
    (s.completed kind value failId rc st).rspKind = kind.code := rfl
@[simp] theorem State.completed_rspValue :
    (s.completed kind value failId rc st).rspValue = value := rfl
@[simp] theorem State.completed_rspAttrRc :
    (s.completed kind value failId rc st).rspAttrRc = rc := rfl
@[simp] theorem State.completed_rspAttrStatus :
    (s.completed kind value failId rc st).rspAttrStatus = st := rfl
@[simp] theorem State.completed_rspFailId :
    (s.completed kind value failId rc st).rspFailId = failId := rfl
@[simp] theorem State.completed_done : (s.completed kind value failId rc st).done = true := rfl
@[simp] theorem State.completed_life : (s.completed kind value failId rc st).life = s.life := rfl
@[simp] theorem State.completed_history :
    (s.completed kind value failId rc st).history = s.history := rfl
@[simp] theorem State.completed_requests :
    (s.completed kind value failId rc st).requests = s.requests := rfl
@[simp] theorem State.completed_answers :
    (s.completed kind value failId rc st).answers = s.answers := rfl
@[simp] theorem State.completed_draws : (s.completed kind value failId rc st).draws = s.draws := rfl
@[simp] theorem State.completed_resetIn :
    (s.completed kind value failId rc st).resetIn = s.resetIn := rfl

end

/-! ### `State.engineReset`: the reset event (70_reset_and_hazards.md R330) -/

section

variable (s : State)

@[simp] theorem State.engineReset_cfg : (s.engineReset).cfg = s.cfg := rfl
@[simp] theorem State.engineReset_cmdOp : (s.engineReset).cmdOp = none := rfl
@[simp] theorem State.engineReset_cmdId : (s.engineReset).cmdId = none := rfl
@[simp] theorem State.engineReset_cmdBlocking : (s.engineReset).cmdBlocking = none := rfl
@[simp] theorem State.engineReset_cmdHandler : (s.engineReset).cmdHandler = none := rfl
@[simp] theorem State.engineReset_cmdLen : (s.engineReset).cmdLen = none := rfl
@[simp] theorem State.engineReset_cmdData : (s.engineReset).cmdData = none := rfl
@[simp] theorem State.engineReset_phase : (s.engineReset).phase = .idle := rfl
@[simp] theorem State.engineReset_k : (s.engineReset).k = none := rfl
@[simp] theorem State.engineReset_rsId : (s.engineReset).rsId = none := rfl
@[simp] theorem State.engineReset_rxEomw : (s.engineReset).rxEomw = none := rfl
@[simp] theorem State.engineReset_rxEotw : (s.engineReset).rxEotw = none := rfl
@[simp] theorem State.engineReset_rxCount : (s.engineReset).rxCount = none := rfl
@[simp] theorem State.engineReset_rxRc : (s.engineReset).rxRc = none := rfl
@[simp] theorem State.engineReset_mbValue : (s.engineReset).mbValue = none := rfl
@[simp] theorem State.engineReset_lastAttrRc : (s.engineReset).lastAttrRc = none := rfl
@[simp] theorem State.engineReset_lastAttrSt : (s.engineReset).lastAttrSt = none := rfl
@[simp] theorem State.engineReset_rspKind : (s.engineReset).rspKind = 0#4 := rfl
@[simp] theorem State.engineReset_rspValue : (s.engineReset).rspValue = 0#32 := rfl
@[simp] theorem State.engineReset_rspAttrRc : (s.engineReset).rspAttrRc = 0#32 := rfl
@[simp] theorem State.engineReset_rspAttrStatus : (s.engineReset).rspAttrStatus = 0#32 := rfl
@[simp] theorem State.engineReset_rspFailId : (s.engineReset).rspFailId = 0#16 := rfl
@[simp] theorem State.engineReset_done : (s.engineReset).done = false := rfl
@[simp] theorem State.engineReset_life :
    (s.engineReset).life = List.replicate s.cfg.cportMax .unarmed := rfl
@[simp] theorem State.engineReset_history : (s.engineReset).history = [] := rfl
@[simp] theorem State.engineReset_requests : (s.engineReset).requests = s.requests := rfl
@[simp] theorem State.engineReset_answers :
    (s.engineReset).answers = if s.unanswered then s.answers.tail else s.answers := rfl
@[simp] theorem State.engineReset_draws : (s.engineReset).draws = s.draws := rfl
@[simp] theorem State.engineReset_resetIn : (s.engineReset).resetIn = s.resetIn := rfl

end

end Sys2Proof.Machine
end

