-- ==== Sys2Proof/Laws/Ops.lean ====
section
/-! SUPPORT. What each shared operation can do, said once: if it goes on, then with this result and this
state. -/

namespace Sys2Proof.Machine

open Sys2Proof

/-! ### Sequencing within a step -/

@[simp] theorem andThen_next {α β : Type} (a : α) (f : α → Res β) : andThen (.next a) f = f a := rfl

@[simp] theorem andThen_fault {α β : Type} (r : Fault) (f : α → Res β) :
    andThen (.fault r) f = .fault r := rfl

@[simp] theorem andThen_refused {α β : Type} (r : Refusal) (f : α → Res β) :
    andThen (.refused r) f = .refused r := rfl

theorem andThen_eq_next {α β : Type} {x : Res α} {f : α → Res β} {b : β} :
    andThen x f = .next b ↔ ∃ a, x = .next a ∧ f a = .next b := by
  cases x <;> simp

theorem andThen_eq_fault {α β : Type} {x : Res α} {f : α → Res β} {r : Fault} :
    andThen x f = .fault r ↔ x = .fault r ∨ ∃ a, x = .next a ∧ f a = .fault r := by
  cases x <;> simp

theorem andThen_eq_refused {α β : Type} {x : Res α} {f : α → Res β} {r : Refusal} :
    andThen x f = .refused r ↔ x = .refused r ∨ ∃ a, x = .next a ∧ f a = .refused r := by
  cases x <;> simp

theorem andThen_assoc {α β γ : Type} (x : Res α) (f : α → Res β) (g : β → Res γ) :
    andThen (andThen x f) g = andThen x fun a => andThen (f a) g := by
  cases x <;> rfl

/-! ### Reading a register -/

@[simp] theorem readReg_some {α : Type} (n : RegName) (v : α) : readReg n (some v) = .next v := rfl

@[simp] theorem readReg_none {α : Type} (n : RegName) :
    readReg n (none : Option α) = .fault (.noValue n) := rfl

theorem readReg_eq_next {α : Type} {n : RegName} {o : Option α} {v : α} :
    readReg n o = .next v ↔ o = some v := by
  cases o <;> simp

theorem readReg_ne_refused {α : Type} {n : RegName} {o : Option α} {r : Refusal} :
    readReg n o ≠ .refused r := by
  cases o <;> simp

/-! ### Transactions: the engine waits where none is answered, else goes on with the answer -/

theorem ask_of_never {t : Txn} {s : State} {use : Answer → Res State} (h : s.answerTo t = .never) :
    ask t s use = .next s := by
  simp [ask, h]

theorem ask_of_answered {t : Txn} {s : State} {use : Answer → Res State} (h : s.answerTo t ≠ .never) :
    ask t s use = use (s.answerTo t) := by
  unfold ask; split <;> simp_all

theorem memRead32_eq_next {a : U32} {s u : State} {use : U32 → State → Res State} :
    memRead32 a s use = .next u ↔
      (s.answerTo (.memRead32 a) = .never ∧ u = s) ∨
      ∃ v, s.answerTo (.memRead32 a) = .word v ∧
        use v (s.asked (.memRead32 a)) = .next u := by
  unfold memRead32 ask; cases s.answerTo (.memRead32 a) <;> simp [eq_comm]

theorem memRead32_eq_fault {a : U32} {s : State} {use : U32 → State → Res State} {r : Fault} :
    memRead32 a s use = .fault r ↔
      ∃ v, s.answerTo (.memRead32 a) = .word v ∧
        use v (s.asked (.memRead32 a)) = .fault r := by
  unfold memRead32 ask; cases s.answerTo (.memRead32 a) <;> simp

theorem attrWrite_eq_next {attr sel : U16} {value : U32} {peer : Bool} {s u : State} {use : U32 → State → Res State} :
    attrWrite attr value sel peer s use = .next u ↔
      (s.answerTo (.attrWrite attr value sel peer) = .never ∧ u = s) ∨
      ∃ rc st, s.answerTo (.attrWrite attr value sel peer) = .attrWritten rc st ∧
        use st (s.attrAsked (.attrWrite attr value sel peer) rc st) = .next u := by
  unfold attrWrite ask; cases s.answerTo (.attrWrite attr value sel peer) <;> simp [eq_comm]

theorem attrWrite_eq_fault {attr sel : U16} {value : U32} {peer : Bool} {s : State} {use : U32 → State → Res State} {r : Fault} :
    attrWrite attr value sel peer s use = .fault r ↔
      ∃ rc st, s.answerTo (.attrWrite attr value sel peer) = .attrWritten rc st ∧
        use st (s.attrAsked (.attrWrite attr value sel peer) rc st) = .fault r := by
  unfold attrWrite ask; cases s.answerTo (.attrWrite attr value sel peer) <;> simp

theorem attrRead_eq_next {attr sel : U16} {peer : Bool} {s u : State} {use : U32 → U32 → State → Res State} :
    attrRead attr sel peer s use = .next u ↔
      (s.answerTo (.attrRead attr sel peer) = .never ∧ u = s) ∨
      ∃ v rc st, s.answerTo (.attrRead attr sel peer) = .attrValue v rc st ∧
        use v st (s.attrAsked (.attrRead attr sel peer) rc st) = .next u := by
  unfold attrRead ask; cases s.answerTo (.attrRead attr sel peer) <;> simp [eq_comm]

theorem attrRead_eq_fault {attr sel : U16} {peer : Bool} {s : State} {use : U32 → U32 → State → Res State} {r : Fault} :
    attrRead attr sel peer s use = .fault r ↔
      ∃ v rc st, s.answerTo (.attrRead attr sel peer) = .attrValue v rc st ∧
        use v st (s.attrAsked (.attrRead attr sel peer) rc st) = .fault r := by
  unfold attrRead ask; cases s.answerTo (.attrRead attr sel peer) <;> simp

theorem mbxRead_eq_next {s u : State} {use : U32 → U32 → State → Res State} :
    mbxRead s use = .next u ↔
      (s.answerTo .mbxRead = .never ∧ u = s) ∨
      ∃ v st, s.answerTo .mbxRead = .mbxValue v st ∧
        use v st (s.asked .mbxRead) = .next u := by
  unfold mbxRead ask; cases s.answerTo .mbxRead <;> simp [eq_comm]

theorem mbxRead_eq_fault {s : State} {use : U32 → U32 → State → Res State} {r : Fault} :
    mbxRead s use = .fault r ↔
      ∃ v st, s.answerTo .mbxRead = .mbxValue v st ∧
        use v st (s.asked .mbxRead) = .fault r := by
  unfold mbxRead ask; cases s.answerTo .mbxRead <;> simp

theorem mbxAck_eq_next {v : U16} {s u : State} {use : U32 → State → Res State} :
    mbxAck v s use = .next u ↔
      (s.answerTo (.mbxAck v) = .never ∧ u = s) ∨
      ∃ st, s.answerTo (.mbxAck v) = .mbxStatus st ∧
        use st (s.asked (.mbxAck v)) = .next u := by
  unfold mbxAck ask; cases s.answerTo (.mbxAck v) <;> simp [eq_comm]

theorem mbxAck_eq_fault {v : U16} {s : State} {use : U32 → State → Res State} {r : Fault} :
    mbxAck v s use = .fault r ↔
      ∃ st, s.answerTo (.mbxAck v) = .mbxStatus st ∧
        use st (s.asked (.mbxAck v)) = .fault r := by
  unfold mbxAck ask; cases s.answerTo (.mbxAck v) <;> simp

theorem handlerCall_eq_next {id : U16} {buf len : U32} {s u : State} {use : U32 → State → Res State} :
    handlerCall id buf len s use = .next u ↔
      (s.answerTo (.handlerCall id buf len) = .never ∧ u = s) ∨
      ∃ rc, s.answerTo (.handlerCall id buf len) = .handlerReturn rc ∧
        use rc (s.asked (.handlerCall id buf len)) = .next u := by
  unfold handlerCall ask; cases s.answerTo (.handlerCall id buf len) <;> simp [eq_comm]

theorem handlerCall_eq_fault {id : U16} {buf len : U32} {s : State} {use : U32 → State → Res State} {r : Fault} :
    handlerCall id buf len s use = .fault r ↔
      ∃ rc, s.answerTo (.handlerCall id buf len) = .handlerReturn rc ∧
        use rc (s.asked (.handlerCall id buf len)) = .fault r := by
  unfold handlerCall ask; cases s.answerTo (.handlerCall id buf len) <;> simp

/-! ### Completion and acceptance -/

theorem complete_eq_next {kind : Kind} {value : U32} {failId : U16} {s t : State} :
    complete kind value failId s = .next t ↔
      ∃ rc st, s.lastAttrRc = some rc ∧ s.lastAttrSt = some st ∧
        t = s.completed kind value failId rc st := by
  unfold complete
  cases s.lastAttrRc <;> cases s.lastAttrSt <;> simp [eq_comm]

theorem complete_of_held {kind : Kind} {value : U32} {failId : U16} {s : State} {rc st : U32}
    (hrc : s.lastAttrRc = some rc) (hst : s.lastAttrSt = some st) :
    complete kind value failId s = .next (s.completed kind value failId rc st) :=
  complete_eq_next.2 ⟨rc, st, hrc, hst, rfl⟩

theorem complete_ne_refused {kind : Kind} {value : U32} {failId : U16} {s : State} {r : Refusal} :
    complete kind value failId s ≠ .refused r := by
  unfold complete
  cases s.lastAttrRc <;> cases s.lastAttrSt <;> simp

/-- After the latch, `complete` always completes, with zeros as the attribute answers
(40_command_interface.md R150). -/
theorem complete_latch {kind : Kind} {value : U32} {failId : U16} {s : State} {r : Request} :
    complete kind value failId (s.latch r) =
      .next ((s.latch r).completed kind value failId 0#32 0#32) :=
  complete_of_held rfl rfl

theorem acceptWithId_eq_next {r : Request} {go : State → Res State} {s t : State} :
    acceptWithId r go s = .next t ↔
      (s.cfg.idInRange (idField r.word) = true ∧ go (s.latch r) = .next t) ∨
      (s.cfg.idInRange (idField r.word) = false ∧
        t = (s.latch r).completed .invalidArgument 0#32 0#16 0#32 0#32) := by
  unfold acceptWithId
  cases s.cfg.idInRange (idField r.word) <;> simp [complete_latch, eq_comm]

theorem acceptIllegal_eq_next {r : Request} {s t : State} :
    acceptIllegal r s = .next t ↔
      r.wellFormed = true ∧ t = (s.latch r).completed .illegalCommand 0#32 0#16 0#32 0#32 := by
  unfold acceptIllegal
  cases r.wellFormed <;> simp [complete_latch, eq_comm]

end Sys2Proof.Machine
end

