-- ==== Sys2Proof/Laws/PerInstr.lean ====
section
/-! SUPPORT. The family SelectsItsRow: the word of every encoded command selects the row of the opcode table
with the command's mnemonic (30_encoding.md R113), one lemma per command. -/

namespace Sys2Proof.Laws

open Sys2Proof

/-- The word of the encoded command selects the row with the command's mnemonic. -/
def SelectsItsRow.Statement (i : Instr) : Prop :=
  ∃ row ∈ opcodeTable, row.mnemonic = i.mnemonic ∧ row.selects (encode i).word = true

/-- A row whose mask and pattern agree with the encoded word bit by bit is selected by it. -/
theorem selects_encodeWord {row : OpcodeRow} {op : BitVec 4} {b h : Bool} {id : U16}
    (hbits : ∀ n < 32, (row.mask.getLsbD n &&
      (if n < 16 then id.getLsbD n else if n < 26 then false else if n = 26 then h
        else if n = 27 then b else op.getLsbD (n - 28))) = row.pattern.getLsbD n) :
    row.selects (encodeWord op b h id) = true := by
  unfold OpcodeRow.selects
  rw [beq_iff_eq]
  apply BitVec.eq_of_getLsbD_eq
  intro n hn
  rw [BitVec.getLsbD_and, getLsbD_encodeWord, Bool.and_comm]
  exact hbits n hn

theorem SelectsItsRow.resetOne (id : U16) : Statement (.resetOne id) :=
  ⟨⟨"RESET_ONE", 0x10000000, 0xFFFF0000⟩, by simp [opcodeTable], rfl,
    selects_encodeWord (by intro n hn; interval_cases n <;> simp [Instr.opcode, Instr.blocking, Instr.handler])⟩

theorem SelectsItsRow.resetAll : Statement .resetAll :=
  ⟨⟨"RESET_ALL", 0x20000000, 0xFFFFFFFF⟩, by simp [opcodeTable], rfl, by decide⟩

theorem SelectsItsRow.initCport (id : U16) : Statement (.initCport id) :=
  ⟨⟨"INIT_CPORT", 0x30000000, 0xFFFF0000⟩, by simp [opcodeTable], rfl,
    selects_encodeWord (by intro n hn; interval_cases n <;> simp [Instr.opcode, Instr.blocking, Instr.handler])⟩

theorem SelectsItsRow.receive (b h : Bool) (id : U16) : Statement (.receive b h id) :=
  ⟨⟨"RECEIVE", 0x40000000, 0xF3FF0000⟩, by simp [opcodeTable], rfl,
    selects_encodeWord (by intro n hn; interval_cases n <;> simp [Instr.opcode])⟩

theorem SelectsItsRow.send (id : U16) (len : U32) (data : List U8) : Statement (.send id len data) :=
  ⟨⟨"SEND", 0x50000000, 0xFFFF0000⟩, by simp [opcodeTable], rfl,
    selects_encodeWord (by intro n hn; interval_cases n <;> simp [Instr.opcode, Instr.blocking, Instr.handler])⟩

theorem SelectsItsRow.recvCport : Statement .recvCport :=
  ⟨⟨"RECV_CPORT", 0x60000000, 0xFFFFFFFF⟩, by simp [opcodeTable], rfl, by decide⟩

theorem SelectsItsRow.waitLinkUp : Statement .waitLinkUp :=
  ⟨⟨"WAIT_LINK_UP", 0x70000000, 0xFFFFFFFF⟩, by simp [opcodeTable], rfl, by decide⟩

theorem SelectsItsRow.prepareReadiness : Statement .prepareReadiness :=
  ⟨⟨"PREPARE_READINESS", 0x80000000, 0xFFFFFFFF⟩, by simp [opcodeTable], rfl, by decide⟩

theorem SelectsItsRow.prepareHandoff : Statement .prepareHandoff :=
  ⟨⟨"PREPARE_HANDOFF", 0x90000000, 0xFFFFFFFF⟩, by simp [opcodeTable], rfl, by decide⟩

end Sys2Proof.Laws
end

