-- ==== Sys2Proof/Laws/Sequencer.lean ====
section
/-! SUPPORT. What a step can be: a reset event, an accept step, or the transaction of the running command's
phase. -/

namespace Sys2Proof.Machine

open Sys2Proof

/-- While a command runs, the meaning of every command is the transaction of PHASE (10_state.md R37). -/
theorem exec_of_busy (i : Instr) {s : State} (h : s.phase ≠ .idle) : exec i s = stepPhase s := by
  cases i <;>
    simp only [exec, execResetOne, execResetAll, execInitCport, execReceive, execSend, execRecvCport,
      execWaitLinkUp, execPrepareReadiness, execPrepareHandoff] <;>
    unfold stepPhase <;> cases hp : s.phase <;> simp_all

theorem commandStep_of_busy {s : State} (h : s.phase ≠ .idle) : commandStep s = stepPhase s := by
  unfold commandStep; split
  · contradiction
  · rfl

theorem commandStep_of_idle {s : State} {r : Request} {rest : List Request} (h : s.phase = .idle)
    (hr : s.requests = r :: rest) : commandStep s = acceptRequest r { s with requests := rest } := by
  simp [commandStep, h, hr]

/-- A step with the reset input not asserted is a step of the command port or of the running command. -/
theorem step_of_noReset {s : State} (h : s.resetIn.head? ≠ some true) :
    step s = commandStep { s with resetIn := s.resetIn.tail } := by
  unfold step engineStep
  split <;> simp_all

/-- A step of an IDLE engine takes the request on the command port (40_command_interface.md R140). -/
theorem step_of_idle {s : State} {r : Request} {rest : List Request} (h : s.phase = .idle)
    (hn : s.resetIn.head? ≠ some true) (hr : s.requests = r :: rest) :
    step s = acceptRequest r { s with requests := rest, resetIn := s.resetIn.tail } := by
  rw [step_of_noReset hn, commandStep_of_idle (r := r) (rest := rest) (by exact h) (by exact hr)]

/-- A step of a busy engine is the transaction of PHASE (10_state.md R37). -/
theorem step_of_busy {s : State} (h : s.phase ≠ .idle) (hn : s.resetIn.head? ≠ some true) :
    step s = stepPhase { s with resetIn := s.resetIn.tail } := by
  rw [step_of_noReset hn, commandStep_of_busy (by exact h)]

/-- A step with the reset input asserted is the reset event (70_reset_and_hazards.md R331). -/
theorem step_of_reset {s : State} {rest : List Bool} (h : s.resetIn = true :: rest) :
    step s = .next { s with resetIn := rest }.engineReset := by
  simp [step, engineStep, h]

end Sys2Proof.Machine
end

