-- ==== Sys2Proof/Tests/Slice0.lean ====
section
/-! SUPPORT. The model's own tests. Expected results are those of spec/95_test_vectors.md (named by vector) or
are worked out by hand from the rules; every word is written out from 30_encoding.md R111. The second half
holds one witness for every statement with hypotheses. -/

namespace Sys2Proof.Tests

open Sys2Proof Sys2Proof.Machine

/-- The engine after reset, in the configuration EX, with these requests and these coming answers. -/
def ready (requests : List Request) (answers : List Answer) : State :=
  { State.reset with requests := requests, answers := answers }

/-- A running command: every register holds a value, and the CPort is `id`. -/
def running (phase : Phase) (op : BitVec 4) (id : U16) (answers : List Answer) : State :=
  { State.reset with
    phase := phase
    cmdOp := some op
    cmdId := some id
    cmdBlocking := some true
    cmdHandler := some true
    cmdLen := some 2
    cmdData := some [0xAA, 0x55]
    k := some (id.setWidth 32)
    rsId := some id
    rxEomw := some 0
    rxEotw := some 0
    rxCount := some 3
    rxRc := some 7
    mbValue := some 4
    lastAttrRc := some 0
    lastAttrSt := some 0
    answers := answers }

/-- The outcome is a next state with the property. -/
def goesTo (x : Res State) (p : State → Bool) : Bool :=
  match x with
  | .next t => p t
  | _ => false

/-- The outcome is this refusal. -/
def refusedAs (x : Res State) (r : Refusal) : Bool :=
  match x with
  | .refused q => q == r
  | _ => false

/-- The last record of the event history. -/
def lastTxn (s : State) : Option Txn := s.history.getLast?.map Event.txn

/-- A word with no operands beside it. -/
def word (w : U32) : Request := ⟨w, 0, []⟩

/-- The word is illegal. -/
def illegal (w : U32) : Bool :=
  match decode (word w) with
  | .ok _ => false
  | .error _ => true

/-! ### Well-formedness: each check refuses an ill-formed term -/

/-- V-D3: three bytes with len = 2. -/
theorem test_ill_formed_send : (Instr.send 1 2 [1, 2, 3]).wellFormed = false := by decide

theorem test_ill_formed_send_short : (Instr.send 1 2 [1]).wellFormed = false := by decide

theorem test_ill_formed_request : (⟨0x50000001, 2, [1, 2, 3]⟩ : Request).wellFormed = false := by decide

theorem test_well_formed_send : (Instr.send 1 2 [1, 2]).wellFormed = true := by decide

/-- V-D2: len and data are ignored for every opcode but SEND's. -/
theorem test_well_formed_reset_one : (⟨0x10000000, 7, []⟩ : Request).wellFormed = true := by decide

/-- V-D3: refused at the command port, not accepted, not IllegalCommand. -/
theorem test_ill_formed_send_refused :
    refusedAs (step (ready [⟨0x50000001, 2, [1, 2, 3]⟩] [])) .malformedRequest = true := by decide

/-- EX satisfies wf (95_test_vectors.md 0.1). -/
theorem test_ex_well_formed : Config.illustrative.wf = true := by decide

/-- R9 refuses a configuration that breaks one of its conditions: CPORT_MAX 0 and 65, TABLE_LEN short, TX_BUF_SIZE 0 and above
TX_EOM_OFFSET, TX_EOM_OFFSET at the stride, RX_BUF_SIZE 0 and above the stride, a zero pattern, an unaligned
base, a buffer past the window, two regions that meet. -/
theorem test_bad_configurations :
    ([ { Config.illustrative with cportMax := 0 },
       { Config.illustrative with cportMax := 65, tableLen := 65, regE2efcEn0 := 0x900, regE2efcEn1 := 0x904 },
       { Config.illustrative with tableLen := 3 },
       { Config.illustrative with txBufSize := 0 },
       { Config.illustrative with txBufSize := 0x81 },
       { Config.illustrative with txEomOffset := 0x100 },
       { Config.illustrative with rxBufSize := 0 },
       { Config.illustrative with rxBufSize := 0x101 },
       { Config.illustrative with txResetPattern := 0 },
       { Config.illustrative with rxResetPattern := 0 },
       { Config.illustrative with regE2efcEn1 := 0x806 },
       { Config.illustrative with rxBufBase := 0xFFFFFE00 },
       { Config.illustrative with regE2efcEn1 := 0x800 } ].all fun c => !c.wf) = true := by decide

/-- R334: a configuration that fails the check yields no engine. -/
theorem test_bad_configuration_refused :
    refusedAs (State.build { Config.illustrative with cportMax := 0 }) .badConfiguration = true := by decide

/-! ### Decoding: OP[31:28] B[27] H[26] RSV[25:16] ID[15:0] -/

theorem test_decode_reset_one :
    decode (word 0b0001_0_0_0000000000_0000000000000011) = .ok (.resetOne 3) := by decide

theorem test_decode_reset_all :
    decode (word 0b0010_0_0_0000000000_0000000000000000) = .ok .resetAll := by decide

theorem test_decode_init_cport :
    decode (word 0b0011_0_0_0000000000_0000000000000010) = .ok (.initCport 2) := by decide

theorem test_decode_receive :
    decode (word 0b0100_0_0_0000000000_0000000000000000) = .ok (.receive false false 0) := by decide

theorem test_decode_receive_blocking :
    decode (word 0b0100_1_0_0000000000_0000000000000001) = .ok (.receive true false 1) := by decide

theorem test_decode_receive_handler :
    decode (word 0b0100_0_1_0000000000_0000000000000010) = .ok (.receive false true 2) := by decide

theorem test_decode_send :
    decode ⟨0b0101_0_0_0000000000_0000000000000001, 2, [0xAA, 0x55]⟩ = .ok (.send 1 2 [0xAA, 0x55]) := by
  decide

theorem test_decode_recv_cport :
    decode (word 0b0110_0_0_0000000000_0000000000000000) = .ok .recvCport := by decide

theorem test_decode_wait_link_up :
    decode (word 0b0111_0_0_0000000000_0000000000000000) = .ok .waitLinkUp := by decide

theorem test_decode_prepare_readiness :
    decode (word 0b1000_0_0_0000000000_0000000000000000) = .ok .prepareReadiness := by decide

theorem test_decode_prepare_handoff :
    decode (word 0b1001_0_0_0000000000_0000000000000000) = .ok .prepareHandoff := by decide

/-- The whole ID field and nothing else is the id. -/
theorem test_decode_id_width : decode (word 0x1000FFFF) = .ok (.resetOne 0xFFFF) := by decide

/-- The illegal words of 95_test_vectors.md 2.1. -/
theorem test_illegal_words :
    ([ 0x00000000, 0x18000003, 0x14000003, 0x10010000, 0x12000000, 0x18000004, 0x20000001, 0x28000000,
       0x34000000, 0x4C100000, 0x4E000000, 0x5C000001, 0x60000001, 0x70008000, 0x80400000, 0x94000000,
       0xA0000000, 0xB0000000, 0xC0000000, 0xD0000000, 0xE0000000, 0xF0000000, 0xFFFFFFFF ].all
      illegal) = true := by decide

/-- R116, reported by name. -/
theorem test_illegal_reasons :
    decode (word 0xA0000000) = .error .reservedOpcode ∧ decode (word 0x10010000) = .error .reservedBits ∧
    decode (word 0x14000003) = .error .strayFlag ∧ decode (word 0x60000001) = .error .strayId := by decide

theorem test_encode_words :
    (encode (.receive true true 3)).word = 0x4C000003 ∧ (encode .prepareHandoff).word = 0x90000000 := by
  decide

theorem test_text :
    (Instr.receive true true 3).text = "RECEIVE.BH 3" ∧ (Instr.send 1 2 [170, 85]).text = "SEND 1, [170, 85]" := by
  decide

theorem test_decode_table_word :
    decodeTableWord 32 0x30000002 = some (.initCport 2) ∧
    decodeTableWord 32 0x50000001 = some (.send 1 0 []) ∧ decodeTableWord 32 0 = none := by decide

/-- With no program placed the engine is quiescent after reset; with a word placed its next step takes it. -/
theorem test_with_fetch_word :
    refusedAs (step State.reset) .quiescent = true ∧
    goesTo (step (State.reset.withFetchWord 32 0x70000000)) (fun t => t.phase == .lkPoll) = true := by decide

/-! ### Addresses and masks (95_test_vectors.md 0.2) -/

/-- The rows of ids 3 and, under EX64, 63 (20_memory.md R77: 63 / 32 = 1, 63 / 16 = 3, 63 mod 16 = 15). -/
theorem test_addresses :
    Config.illustrative.txResetAddr 3 = 0x10C ∧ Config.illustrative.rxXferSizeReg 3 = 0x70C ∧
    Config.illustrative.txEom 3 = 0x10380 ∧ Config.illustrative.rxBuf 3 = 0x20300 ∧
    Config.illustrative.txqeAddr 63 = 0x004 ∧ Config.illustrative.eomWordAddr 63 = 0x50C ∧
    txqeMask 63 = 0x80000000 ∧ eomNormalMask 63 = 0x40000000 ∧ eomErrorMask 63 = 0x80000000 ∧
    eotMask 63 = 0x80000000 := by decide

/-! ### One step of each command -/

/-- The word 0x10000004: id = CPORT_MAX ends at accept, STATUS 0x102. -/
theorem test_reset_one_bad_id :
    goesTo (step (ready [word 0x10000004] []))
      (fun t => t.statusWord == 0x102 && t.phase == .idle && t.history == []) = true := by decide

/-- W2.1, transaction 3: the connection-state write answers (0x0, -1); STATUS 0x202, RSP_FAIL_ID 1. -/
theorem test_reset_one_attribute_failure :
    goesTo (exec (.resetOne 1) (running (.rsAttr 0) 1 1 [.attrWritten 0 0xFFFFFFFF]))
      (fun t => t.statusWord == 0x202 && t.rspFailId == 1 && t.rspAttrStatus == 0xFFFFFFFF
        && t.lifeOf 1 == .halfReset && lastTxn t == some (.attrWrite 0xA000 0 1 false)) = true := by decide

/-- W3.2, transaction 2: id 0's transmit strobe, 7 to 0x100. -/
theorem test_reset_all_strobe :
    goesTo (exec .resetAll (running .rsTxAssert 2 0 []))
      (fun t => lastTxn t == some (.memWrite32 0x100 7) && t.phase == .rsAttr 0) = true := by decide

/-- W3.2, transactions 18 and 19: after id 1 comes id 2. -/
theorem test_reset_all_advance :
    goesTo (exec .resetAll (running .rsRxDeassert 2 1 []))
      (fun t => lastTxn t == some (.memWrite32 0x204 0) && t.phase == .rsWaitTxq && t.k == some 2
        && t.rsId == some 2 && t.lifeOf 1 == .resetDone) = true := by decide

/-- W5.0, transaction 1. -/
theorem test_init_cport_address :
    goesTo (exec (.initCport 1) (running .armAddr 3 1 []))
      (fun t => lastTxn t == some (.memWrite32 0x304 0x20100) && t.phase == .armPause) = true := by decide

/-- W5.0, transaction 2: the pause value, then Ok with RSP_VALUE 0 although RX_RC holds 7. -/
theorem test_init_cport_pause :
    goesTo (exec (.initCport 1) (running .armPause 3 1 []))
      (fun t => lastTxn t == some (.memWrite32 0x404 0x10) && t.statusWord == 2 && t.rspValue == 0
        && t.lifeOf 1 == .armed) = true := by decide

/-- W6.1, transaction 2: error EOM (0x8) wins over EOT (0x2); STATUS 0x302. -/
theorem test_receive_error_first :
    goesTo (exec (.receive false false 1) { running .rxPollEot 4 1 [.word 2] with rxEomw := some 8 })
      (fun t => t.statusWord == 0x302 && lastTxn t == some (.memRead32 0x600)
        && t.lifeOf 1 == .failedRx) = true := by decide

/-- W5.1, transaction 4: only id 1's normal-EOM bit is written. -/
theorem test_receive_clear :
    goesTo (exec (.receive false true 1) (running .rxClear 4 1 []))
      (fun t => lastTxn t == some (.memWrite32 0x500 4) && t.phase == .rxHandler) = true := by decide

/-- W4.2: len = TX_BUF_SIZE + 1 ends at accept, STATUS 0x102, no transaction. -/
theorem test_send_oversize :
    goesTo (step (ready [⟨0x50000001, 5, [0x11, 0x22, 0x33, 0x44, 0x55]⟩] []))
      (fun t => t.statusWord == 0x102 && t.history == []) = true := by decide

/-- The second and last byte of a two-byte SEND 1 (W4.1, transaction 2): 0x55 to 0x10101, then TX_EOM. -/
theorem test_send_last_byte :
    goesTo (exec (.send 1 2 [0xAA, 0x55]) (running .txCopy 5 1 []))
      (fun t => lastTxn t == some (.memWrite8 0x10101 0x55) && t.phase == .txEom) = true := by decide

/-- W7.2: mailbox value 5 under CPORT_MAX = 4 is InvalidArgument with no acknowledgment. -/
theorem test_recv_cport_out_of_range :
    goesTo (exec .recvCport (running .mbRead 6 0 [.mbxValue 5 0]))
      (fun t => t.statusWord == 0x102 && t.rspValue == 0 && t.history.length == 1) = true := by decide

/-- R264, R265: value 4 is acknowledged as 4 and returned as the id 3. -/
theorem test_recv_cport_acknowledge :
    goesTo (exec .recvCport (running .mbAck 6 0 [.mbxStatus 0]))
      (fun t => lastTxn t == some (.mbxAck 4) && t.statusWord == 2 && t.rspValue == 3) = true := by decide

/-- V-L3: 0x103 is not the sentinel, the read repeats. -/
theorem test_wait_link_up_whole_value :
    goesTo (exec .waitLinkUp (running .lkPoll 7 0 [.attrValue 0x103 0 0]))
      (fun t => t.phase == .lkPoll && lastTxn t == some (.attrRead 0xA100 0 false)) = true := by decide

/-- V-L4: the sentinel with status -1 is a failed read, not an error. -/
theorem test_wait_link_up_failed_read :
    goesTo (exec .waitLinkUp (running .lkPoll 7 0 [.attrValue 3 0 0xFFFFFFFF]))
      (fun t => t.phase == .lkPoll && t.done == false) = true := by decide

/-- V-F1: 0 to 0x800, then 0 to 0x804, then Ok. -/
theorem test_prepare_readiness_first :
    goesTo (exec .prepareReadiness (running .fcEn0 8 0 []))
      (fun t => lastTxn t == some (.memWrite32 0x800 0) && t.phase == .fcEn1) = true := by decide

theorem test_prepare_readiness_second :
    goesTo (exec .prepareReadiness (running .fcEn1 8 0 []))
      (fun t => lastTxn t == some (.memWrite32 0x804 0) && t.statusWord == 2) = true := by decide

/-- R181: after the last id (3) the command completes. -/
theorem test_prepare_handoff_end :
    goesTo (exec .prepareHandoff (running .rsRxDeassert 9 3 []))
      (fun t => lastTxn t == some (.memWrite32 0x20C 0) && t.statusWord == 2 && t.k == some 4) = true := by
  decide

/-- V-D1: an illegal word leaves the response at zero, STATUS 0x602. -/
theorem test_illegal_word_completes :
    goesTo (step (ready [word 0xFFFFFFFF] []))
      (fun t => t.statusWord == 0x602 && t.rspValue == 0 && t.rspFailId == 0 && t.history == []) = true := by
  decide

/-- An answer of another shape is refused (40_command_interface.md R146). -/
theorem test_answer_shape :
    refusedAs (exec .recvCport (running .mbRead 6 0 [.word 0])) .answerShape = true := by decide

/-- I24: while the handler does not return the engine stays in RX_HANDLER, BUSY = 1. -/
theorem test_handler_never_returns :
    goesTo (step (running .rxHandler 4 3 [.never]))
      (fun t => t == running .rxHandler 4 3 [.never] && t.statusWord == 1) = true := by decide

/-- R331: a reset event reaches an engine that waits for a handler, and takes the unreturned call with it. -/
theorem test_reset_ends_the_wait :
    goesTo (step { running .rxHandler 4 3 [.never, .word 8] with resetIn := [true] })
      (fun t => t == { State.reset with answers := [.word 8] }) = true := by decide

/-! ### Witnesses: concrete values that meet the hypotheses of each statement together -/

/-- Every instruction form, with id 3 (= CPORT_MAX - 1) and a full, an empty and a short SEND. -/
def forms : List Instr :=
  [ .resetOne 3, .resetAll, .initCport 3, .receive false false 3, .receive true true 0,
    .send 3 4 [1, 2, 3, 4], .send 0 0 [], .recvCport, .waitLinkUp, .prepareReadiness, .prepareHandoff ]

theorem witness_DecodeOfEncode : (forms.all Instr.wellFormed) = true := by decide

theorem witness_EncodeOfDecode :
    decode ⟨0x50000001, 2, [0xAA, 0x55]⟩ = .ok (.send 1 2 [0xAA, 0x55]) ∧
    decode ⟨0x10000003, 7, [1]⟩ = .ok (.resetOne 3) := by decide

theorem witness_OpcodeRowsSeparate :
    ⟨"RECEIVE", 0x40000000, 0xF3FF0000⟩ ∈ opcodeTable ∧ ⟨"SEND", 0x50000000, 0xFFFF0000⟩ ∈ opcodeTable ∧
    (⟨"RECEIVE", 0x40000000, 0xF3FF0000⟩ : OpcodeRow).selects 0x4C000003 = true := by decide

theorem witness_CommandAccepted :
    State.reset.phase = .idle ∧
    (forms.all fun i => i.wellFormed && passesChecks State.reset.cfg i) = true := by decide

/-- An id at CPORT_MAX for each command that takes one, and len = TX_BUF_SIZE + 1. -/
theorem witness_ChecksEndCommand :
    State.reset.phase = .idle ∧
    ([ .resetOne 4, .initCport 4, .receive true true 4, .send 4 0 [], .send 0 5 [1, 2, 3, 4, 5] ].all
      fun i => i.wellFormed && !passesChecks State.reset.cfg i) = true := by decide

theorem witness_StepRunsDecodedCommand :
    (ready [word 0x10000003] []).phase = .idle ∧ (ready [word 0x10000003] []).resetIn.head? ≠ some true ∧
    (ready [word 0x10000003] []).requests = word 0x10000003 :: [] ∧
    decode (word 0x10000003) = .ok (.resetOne 3) ∧ (Instr.resetOne 3).wellFormed = true := by decide

theorem witness_BusyEngineIgnoresRequests :
    (running .lkPoll 7 0 [.attrValue 0 0 0]).phase ≠ .idle ∧
    (running .lkPoll 7 0 [.attrValue 0 0 0]).resetIn.head? ≠ some true ∧
    goesTo (step (running .lkPoll 7 0 [.attrValue 0 0 0])) (fun t => t.requests == []) = true := by decide

theorem witness_IllegalWordCompletes :
    (ready [word 0x18000003] []).phase = .idle ∧ (ready [word 0x18000003] []).resetIn.head? ≠ some true ∧
    (ready [word 0x18000003] []).requests = [word 0x18000003] ∧ (word 0x18000003).wellFormed = true ∧
    decode (word 0x18000003) = .error .strayFlag := by decide

/-- Both clauses: RESET_ONE with operands beside the word, and SEND with one byte too many and too few. -/
theorem witness_OperandsBesideTheWord :
    (ready [⟨0x10000000, 7, [1]⟩] []).phase = .idle ∧
    (ready [⟨0x10000000, 7, [1]⟩] []).resetIn.head? ≠ some true ∧
    (ready [⟨0x10000000, 7, [1]⟩] []).requests = ⟨0x10000000, 7, [1]⟩ :: [] ∧ opField 0x10000000 ≠ 5#4 ∧
    (ready [⟨0x50000001, 2, [1, 2, 3]⟩] []).requests = ⟨0x50000001, 2, [1, 2, 3]⟩ :: [] ∧
    (ready [⟨0x50000001, 2, [1]⟩] []).requests = ⟨0x50000001, 2, [1]⟩ :: [] ∧
    opField 0x50000001 = 5#4 ∧ decode ⟨0x50000001, 2, [1, 2, 3]⟩ = .ok (.send 1 2 [1, 2, 3]) ∧
    decode ⟨0x50000001, 2, [1]⟩ = .ok (.send 1 2 [1]) ∧ (2#32).toNat ≠ [1#8, 2#8, 3#8].length ∧ (2#32).toNat ≠ [1#8].length := by
  decide

theorem witness_QuiescentWithoutRequest :
    State.reset.phase = .idle ∧ State.reset.requests = [] ∧ State.reset.resetIn.head? ≠ some true := by
  decide

/-- The bit set and the bit clear, at id 3 and id 0. -/
theorem witness_QueuePolled :
    (running .rsWaitTxq 1 3 [.word 8]).phase = .rsWaitTxq ∧
    (running .rsWaitTxq 1 3 [.word 8]).rsId = some 3 ∧
    (running .rsWaitTxq 1 3 [.word 8]).answerTo (.memRead32 0x000) = .word 8 ∧ 8 &&& txqeMask 3 ≠ 0 ∧
    (running .rsWaitTxq 1 0 [.word 8]).answerTo (.memRead32 0x000) = .word 8 ∧ 8 &&& txqeMask 0 = 0 ∧
    (running .rsWaitTxq 1 3 [.word 8]).cfg.txqeAddr 3 = 0x000 := by decide

theorem witness_TransmitStrobeAsserted :
    (running .rsTxAssert 1 3 []).phase = .rsTxAssert ∧ (running .rsTxAssert 1 3 []).rsId = some 3 := by
  decide

/-- The first attribute and the last. -/
theorem witness_AttributeCleared :
    (running (.rsAttr 0) 1 3 [.attrWritten 5 0]).phase = .rsAttr 0 ∧
    (running (.rsAttr 0) 1 3 [.attrWritten 5 0]).rsId = some 3 ∧
    (running (.rsAttr 0) 1 3 [.attrWritten 5 0]).answerTo (.attrWrite 0xA000 0 3 false) = .attrWritten 5 0 ∧
    Config.illustrative.attrConnectionState = 0xA000 ∧
    (running (.rsAttr 3) 1 3 [.attrWritten 5 0]).answerTo (.attrWrite 0xA003 0 3 false) = .attrWritten 5 0 ∧
    Config.illustrative.attrCreditsToSend = 0xA003 := by decide

/-- The first attribute and the last, with a negative and a positive status. -/
theorem witness_AttributeFailureAborts :
    (running (.rsAttr 0) 1 3 [.attrWritten 0 0xFFFFFFFF]).phase = .rsAttr 0 ∧
    (running (.rsAttr 0) 1 3 [.attrWritten 0 0xFFFFFFFF]).rsId = some 3 ∧ (0xFFFFFFFF : U32) ≠ 0 ∧
    (running (.rsAttr 0) 1 3 [.attrWritten 0 0xFFFFFFFF]).answerTo (.attrWrite 0xA000 0 3 false)
      = .attrWritten 0 0xFFFFFFFF ∧
    (running (.rsAttr 3) 2 3 [.attrWritten 7 1]).answerTo (.attrWrite 0xA003 0 3 false) = .attrWritten 7 1 ∧
    Config.illustrative.resetAttr 0 = 0xA000 ∧ Config.illustrative.resetAttr 3 = 0xA003 := by decide

theorem witness_ReceiveStrobeAsserted :
    (running .rsRxAssert 1 3 []).phase = .rsRxAssert ∧ (running .rsRxAssert 1 3 []).rsId = some 3 := by
  decide

theorem witness_TransmitStrobeDeasserted :
    (running .rsTxDeassert 1 3 []).phase = .rsTxDeassert ∧ (running .rsTxDeassert 1 3 []).rsId = some 3 := by
  decide

theorem witness_ResetOneCompletes :
    (running .rsRxDeassert 1 3 []).phase = .rsRxDeassert ∧ (running .rsRxDeassert 1 3 []).rsId = some 3 ∧
    (running .rsRxDeassert 1 3 []).cmdOp = some 1#4 ∧ (running .rsRxDeassert 1 3 []).lastAttrRc = some 0 ∧
    (running .rsRxDeassert 1 3 []).lastAttrSt = some 0 := by decide

/-- The last id but one goes on, the last id ends. -/
theorem witness_ResetAllAdvances :
    (running .rsRxDeassert 2 2 []).phase = .rsRxDeassert ∧ (running .rsRxDeassert 2 2 []).rsId = some 2 ∧
    (running .rsRxDeassert 2 2 []).cmdOp = some 2#4 ∧ (running .rsRxDeassert 2 2 []).k = some 2 ∧
    (running .rsRxDeassert 2 2 []).lastAttrRc = some 0 ∧
    (running .rsRxDeassert 2 2 []).lastAttrSt = some 0 ∧ (2#32 + 1).toNat < Config.illustrative.cportMax ∧
    (running .rsRxDeassert 9 3 []).cmdOp = some 9#4 ∧ (running .rsRxDeassert 9 3 []).k = some 3 ∧
    ¬ (3#32 + 1).toNat < Config.illustrative.cportMax := by decide

theorem witness_ReceiveBufferRegistered :
    (running .armAddr 3 3 []).phase = .armAddr ∧ (running .armAddr 3 3 []).cmdId = some 3 := by decide

/-- INIT_CPORT, RECEIVE without and RECEIVE with a handler. -/
theorem witness_ArmPauseCompletes :
    (running .armPause 3 3 []).phase = .armPause ∧ (running .armPause 3 3 []).cmdId = some 3 ∧
    (running .armPause 3 3 []).lastAttrRc = some 0 ∧ (running .armPause 3 3 []).lastAttrSt = some 0 ∧
    (running .armPause 3 3 []).cmdOp = some 3#4 ∧ (running .armPause 4 3 []).cmdOp = some 4#4 ∧
    (running .armPause 4 3 []).cmdHandler = some true ∧ (running .armPause 4 3 []).rxRc = some 7 ∧
    { running .armPause 4 3 [] with cmdHandler := some false }.cmdHandler = some false := by decide

theorem witness_EomWordPolled :
    (running .rxPollEom 4 3 [.word 0x40]).phase = .rxPollEom ∧
    (running .rxPollEom 4 3 [.word 0x40]).cmdId = some 3 ∧
    (running .rxPollEom 4 3 [.word 0x40]).answerTo (.memRead32 0x500) = .word 0x40 ∧
    Config.illustrative.eomWordAddr 3 = 0x500 := by decide

/-- All five outcomes at id 3: error EOM, EOT, normal EOM, a single poll's end, the next cycle. -/
theorem witness_PollClassified :
    (running .rxPollEot 4 3 [.word 8]).phase = .rxPollEot ∧ (running .rxPollEot 4 3 [.word 8]).cmdId = some 3 ∧
    (running .rxPollEot 4 3 [.word 8]).cmdBlocking = some true ∧
    (running .rxPollEot 4 3 [.word 8]).rxEomw = some 0 ∧
    (running .rxPollEot 4 3 [.word 8]).lastAttrRc = some 0 ∧
    (running .rxPollEot 4 3 [.word 8]).lastAttrSt = some 0 ∧
    (running .rxPollEot 4 3 [.word 8]).answerTo (.memRead32 0x600) = .word 8 ∧
    Config.illustrative.eotWordAddr 3 = 0x600 ∧
    0xC0 &&& eomErrorMask 3 ≠ 0 ∧
    (0x40 &&& eomErrorMask 3 = 0 ∧ 8 &&& eotMask 3 ≠ 0) ∧
    (7 &&& eotMask 3 = 0 ∧ 0x40 &&& eomNormalMask 3 ≠ 0) ∧ 0x3F &&& eomNormalMask 3 = 0 ∧
    { running .rxPollEot 4 3 [] with cmdBlocking := some false }.cmdBlocking = some false := by decide

theorem witness_TransferCountRead :
    (running .rxCount 4 3 [.word 0xFFFFFFFF]).phase = .rxCount ∧
    (running .rxCount 4 3 [.word 0xFFFFFFFF]).cmdId = some 3 ∧
    (running .rxCount 4 3 [.word 0xFFFFFFFF]).answerTo (.memRead32 0x70C) = .word 0xFFFFFFFF ∧
    Config.illustrative.rxXferSizeReg 3 = 0x70C := by decide

theorem witness_NormalEomCleared :
    (running .rxClear 4 3 []).phase = .rxClear ∧ (running .rxClear 4 3 []).cmdId = some 3 ∧
    (running .rxClear 4 3 []).cmdHandler = some true := by decide

theorem witness_HandlerCalled :
    (running .rxHandler 4 3 [.handlerReturn 7]).phase = .rxHandler ∧
    (running .rxHandler 4 3 [.handlerReturn 7]).cmdId = some 3 ∧
    (running .rxHandler 4 3 [.handlerReturn 7]).rxCount = some 3 ∧
    (running .rxHandler 4 3 [.handlerReturn 7]).answerTo (.handlerCall 3 0x20300 3) = .handlerReturn 7 ∧
    Config.illustrative.rxBuf 3 = 0x20300 := by decide

/-- A byte with one more to come, and the last byte. -/
theorem witness_ByteCopied :
    (running .txCopy 5 0 []).phase = .txCopy ∧ (running .txCopy 5 0 []).cmdId = some 0 ∧
    (running .txCopy 5 0 []).cmdLen = some 2 ∧ (running .txCopy 5 0 []).k = some 0 ∧
    (running .txCopy 5 0 []).cmdData = some [0xAA, 0x55] ∧
    [0xAA#8, 0x55#8][(0#32).toNat]? = some 0xAA ∧ (0#32 + 1).toNat < (2#32).toNat ∧
    (running .txCopy 5 1 []).k = some 1 ∧ [0xAA#8, 0x55#8][(1#32).toNat]? = some 0x55 ∧
    ¬ (1#32 + 1).toNat < (2#32).toNat := by decide

theorem witness_EndOfMessageSignalled :
    (running .txEom 5 3 []).phase = .txEom ∧ (running .txEom 5 3 []).cmdId = some 3 ∧
    (running .txEom 5 3 []).lastAttrRc = some 0 ∧ (running .txEom 5 3 []).lastAttrSt = some 0 := by decide

/-- A failed read; the values 0 (which wraps) and CPORT_MAX + 1, out of range; the values 1 and CPORT_MAX, in
range. -/
theorem witness_MailboxRead :
    (running .mbRead 6 0 [.mbxValue 0 0]).phase = .mbRead ∧
    (running .mbRead 6 0 [.mbxValue 0 0]).lastAttrRc = some 0 ∧
    (running .mbRead 6 0 [.mbxValue 0 0]).lastAttrSt = some 0 ∧
    (running .mbRead 6 0 [.mbxValue 0 0]).answerTo .mbxRead = .mbxValue 0 0 ∧
    (running .mbRead 6 0 [.mbxValue 0 9]).answerTo .mbxRead = .mbxValue 0 9 ∧ (9 : U32) ≠ 0 ∧
    Config.illustrative.cportMax ≤ (0#32 - 1).toNat ∧ Config.illustrative.cportMax ≤ (5#32 - 1).toNat ∧
    ¬ Config.illustrative.cportMax ≤ (1#32 - 1).toNat ∧
    ¬ Config.illustrative.cportMax ≤ (4#32 - 1).toNat := by decide

/-- A failed acknowledgment that counts, one that does not (EXU), and a good one. -/
theorem witness_MailboxAcknowledged :
    (running .mbAck 6 0 [.mbxStatus 9]).phase = .mbAck ∧
    (running .mbAck 6 0 [.mbxStatus 9]).mbValue = some 4 ∧
    (running .mbAck 6 0 [.mbxStatus 9]).lastAttrRc = some 0 ∧
    (running .mbAck 6 0 [.mbxStatus 9]).lastAttrSt = some 0 ∧
    (running .mbAck 6 0 [.mbxStatus 9]).answerTo (.mbxAck 4) = .mbxStatus 9 ∧
    ((4 : U32).setWidth 16 : U16) = 4 ∧ Config.illustrative.ackStatusChecked = true ∧
    { Config.illustrative with ackStatusChecked := false }.ackStatusChecked = false ∧
    (running .mbAck 6 0 [.mbxStatus 0]).answerTo (.mbxAck 4) = .mbxStatus 0 := by decide

/-- The sentinel, another value, and the sentinel with a failed read. -/
theorem witness_LinkPolled :
    (running .lkPoll 7 0 [.attrValue 3 0 0]).phase = .lkPoll ∧
    (running .lkPoll 7 0 [.attrValue 3 0 0]).answerTo (.attrRead 0xA100 0 false) = .attrValue 3 0 0 ∧
    (running .lkPoll 7 0 [.attrValue 0x103 0 0]).answerTo (.attrRead 0xA100 0 false)
      = .attrValue 0x103 0 0 ∧
    (running .lkPoll 7 0 [.attrValue 3 0 1]).answerTo (.attrRead 0xA100 0 false) = .attrValue 3 0 1 ∧
    Config.illustrative.attrPowerstate = 0xA100 ∧ Config.illustrative.powerstateSelector = 0 ∧
    Config.illustrative.linkUpValue = 3 := by decide

theorem witness_FirstEnableRegisterCleared : (running .fcEn0 8 0 []).phase = .fcEn0 := by decide

theorem witness_SecondEnableRegisterCleared :
    (running .fcEn1 8 0 []).phase = .fcEn1 ∧ (running .fcEn1 8 0 []).lastAttrRc = some 0 ∧
    (running .fcEn1 8 0 []).lastAttrSt = some 0 := by decide

/-- A step that completes, one that does not, and an accept step. -/
theorem witness_OnlyCompletionPublishes :
    (running .fcEn1 8 0 []).resetIn.head? ≠ some true ∧
    goesTo (step (running .fcEn1 8 0 [])) (fun t => t.phase == .idle && t.done) = true ∧
    goesTo (step (running .fcEn0 8 0 [])) (fun t => t.phase != .idle) = true ∧
    goesTo (step (ready [word 0x80000000] [])) (fun t => t.phase != .idle && !t.done) = true := by decide

theorem witness_OperandsHeldWhileBusy :
    (running .fcEn0 8 0 []).phase ≠ .idle ∧ (running .fcEn0 8 0 []).resetIn.head? ≠ some true ∧
    goesTo (step (running .fcEn0 8 0 [])) (fun _ => true) = true := by decide

theorem witness_ConfigurationIsConstant :
    goesTo (step { running .fcEn0 8 0 [] with resetIn := [true] }) (fun _ => true) = true ∧
    goesTo (step (running .fcEn0 8 0 [])) (fun _ => true) = true := by decide

theorem witness_OneTransactionPerStep :
    (ready [word 0x80000000] []).resetIn.head? ≠ some true ∧ (ready [word 0x80000000] []).phase = .idle ∧
    goesTo (step (ready [word 0x80000000] [])) (fun _ => true) = true ∧
    (running .fcEn0 8 0 []).phase ≠ .idle ∧
    (running .fcEn0 8 0 []).unanswered = false ∧
    goesTo (step (running .fcEn0 8 0 [])) (fun _ => true) = true ∧
    (running .mbAck 6 0 [.never]).phase ≠ .idle ∧ (running .mbAck 6 0 [.never]).unanswered = true ∧
    goesTo (step (running .mbAck 6 0 [.never])) (fun _ => true) = true := by decide

theorem witness_ResetValues : State.resetWith Config.illustrative = State.reset := by decide

theorem witness_ResetEventAbandonsCommand :
    { running .fcEn0 8 0 [] with resetIn := [true, false] }.resetIn = true :: [false] ∧
    { running .rxHandler 4 3 [.never] with resetIn := [true] }.resetIn = true :: [] ∧
    { running .rxHandler 4 3 [.never] with resetIn := [true] }.unanswered = true := by decide

theorem witness_BadConfigurationRefused :
    Config.illustrative.wf = true ∧ { Config.illustrative with cportMax := 0 }.wf = false := by decide

theorem witness_ResetMeetsInvariant : Config.illustrative.wf = true := by decide

/-- The invariant holds of a running state of every family, and each of them has a next state. -/
def invariantStates : List State :=
  [ State.reset, running .rsWaitTxq 1 3 [.word 8], running (.rsAttr 3) 2 3 [.attrWritten 0 1],
    running .rsRxDeassert 9 3 [], running .armPause 3 3 [], running .rxPollEom 4 3 [.word 0],
    running .rxHandler 4 3 [.handlerReturn 1], running .txCopy 5 1 [], running .mbAck 6 0 [.mbxStatus 0],
    running .lkPoll 7 0 [.attrValue 3 0 0], running .fcEn1 8 0 [] ]

theorem witness_StepKeepsInvariant :
    (invariantStates.all State.inv) = true ∧
    (invariantStates.tail.all fun s => goesTo (step s) State.inv) = true := by decide

theorem witness_NoModelFault : (invariantStates.all State.inv) = true := by decide

theorem witness_BusyEngineSteps :
    (invariantStates.tail.all fun s => s.inv && s.phase != .idle && s.answerFits) = true ∧
    (running .rxHandler 4 3 [.never]).inv = true ∧ (running .rxHandler 4 3 [.never]).phase ≠ .idle ∧
    (running .rxHandler 4 3 [.never]).answerFits = true := by decide

theorem witness_TransactionsStayInRegions :
    (invariantStates.tail.all fun s => s.inv &&
      s.history.all (fun e => e.txn.permitted s.cfg) && goesTo (step s) (fun _ => true)) = true := by decide

/-- Both clauses. -/
theorem witness_HandoffIsResetAll :
    State.reset.phase = .idle ∧ (running .rsRxDeassert 2 3 []).phase ≠ .idle ∧
    2#4 ∈ (running .rsRxDeassert 2 3 []).phase.usedBy ∧
    (running .rsRxDeassert 2 3 []).resetIn.head? ≠ some true ∧
    (running .rsRxDeassert 2 3 []).cmdOp = some 2#4 := by decide

/-- A full buffer, with id CPORT_MAX - 1. -/
theorem witness_SendRunsToCompletion :
    (ready [encode (.send 3 4 [1, 2, 3, 4])] []).phase = .idle ∧
    (ready [encode (.send 3 4 [1, 2, 3, 4])] []).resetIn = [] ∧
    (ready [encode (.send 3 4 [1, 2, 3, 4])] []).requests = encode (.send 3 4 [1, 2, 3, 4]) :: [] ∧
    (4#32).toNat = [1#8, 2#8, 3#8, 4#8].length ∧ Config.illustrative.idInRange 3 = true ∧
    [1#8, 2#8, 3#8, 4#8].length ≤ Config.illustrative.txBufSize := by decide

/-- RESET_ONE 3, with two polls before the queue is seen empty. -/
def resetOneRun : State :=
  ready [encode (.resetOne 3)] ([0x0#32, 0x7#32].map .word ++ resetAnswers 8 (fun _ => 5) ++ [])

/-- V-R1: the bit of id 3 is seen at the third poll. -/
theorem witness_ResetOneRunsToCompletion :
    resetOneRun.phase = .idle ∧ resetOneRun.resetIn = [] ∧
    resetOneRun.requests = encode (.resetOne 3) :: [] ∧ resetOneRun.cfg.idInRange 3 = true ∧
    (∀ v ∈ [0x0#32, 0x7#32], v &&& txqeMask 3 = 0) ∧ 8 &&& txqeMask 3 ≠ 0 ∧
    resetOneRun.answers = [0x0#32, 0x7#32].map .word ++ resetAnswers 8 (fun _ => 5) ++ [] := by
  refine ⟨by decide, by decide, by decide, by decide, ?_, by decide, by decide⟩
  simp only [List.forall_mem_cons, List.not_mem_nil, false_implies, implies_true, and_true]; decide

/-- RESET_ALL with every queue empty. -/
def resetAllRun : State :=
  ready [encode .resetAll] ((List.range 4).flatMap (fun _ => resetAnswers 0xF (fun _ => 5)) ++ [])

theorem witness_ResetAllRunsToCompletion :
    resetAllRun.inv = true ∧ resetAllRun.phase = .idle ∧ resetAllRun.resetIn = [] ∧
    resetAllRun.requests = encode .resetAll :: [] ∧
    (∀ n < resetAllRun.cfg.cportMax, (0xF : U32) &&& txqeMask (BitVec.ofNat 16 n) ≠ 0) ∧
    resetAllRun.answers =
      (List.range resetAllRun.cfg.cportMax).flatMap (fun _ => resetAnswers 0xF (fun _ => 5)) ++ [] := by
  decide

/-- RESET_ALL that fails at id `k`, attribute `j`, with status -5. -/
def resetAllFails (k : Nat) (j : Fin 4) : State :=
  ready [encode .resetAll] ((List.range k).flatMap (fun _ => resetAnswers 0xF (fun _ => 0)) ++
    failedResetAnswers 0xF (fun _ => 0) j 0 0xFFFFFFFB ++ [])

/-- W3.2 (id 2, first attribute), and the last id with the last attribute. -/
theorem witness_ResetAllStopsAtFirstFailure :
    (resetAllFails 2 0).inv = true ∧ (resetAllFails 2 0).phase = .idle ∧ (resetAllFails 2 0).resetIn = [] ∧
    (resetAllFails 2 0).requests = encode .resetAll :: [] ∧ 2 < (resetAllFails 2 0).cfg.cportMax ∧
    (0xFFFFFFFB : U32) ≠ 0 ∧ (∀ n ≤ 2, (0xF : U32) &&& txqeMask (BitVec.ofNat 16 n) ≠ 0) ∧
    (resetAllFails 2 0).answers = (List.range 2).flatMap (fun _ => resetAnswers 0xF (fun _ => 0)) ++
      failedResetAnswers 0xF (fun _ => 0) 0 0 0xFFFFFFFB ++ [] ∧
    (resetAllFails 3 3).inv = true ∧ 3 < (resetAllFails 3 3).cfg.cportMax ∧
    (∀ n ≤ 3, (0xF : U32) &&& txqeMask (BitVec.ofNat 16 n) ≠ 0) := by decide

/-- RECEIVE.H 1 with a frame of 3 bytes. -/
def dispatchRun : State :=
  ready [encode (.receive false true 1)] [.word 0x45, .word 0, .word 3, .handlerReturn 0]

/-- W5.1. -/
theorem witness_DispatchRunsToCompletion :
    dispatchRun.phase = .idle ∧ dispatchRun.resetIn = [] ∧
    dispatchRun.requests = encode (.receive false true 1) :: [] ∧ dispatchRun.cfg.idInRange 1 = true ∧
    0x45 &&& eomErrorMask 1 = 0 ∧ 0 &&& eotMask 1 = 0 ∧ 0x45 &&& eomNormalMask 1 ≠ 0 ∧
    dispatchRun.answers = .word 0x45 :: .word 0 :: .word 3 :: .handlerReturn 0 :: [] := by decide

/-- Reads that are not "link up": another value, and the sentinel in a failed read. -/
def linkDown : List (U32 × U32 × U32) := [(0x103, 0, 0), (3, 0, 0xFFFFFFFF)]

/-- WAIT_LINK_UP with two such reads before the sentinel. -/
def linkRun : State :=
  ready [encode .waitLinkUp] [.attrValue 0x103 0 0, .attrValue 3 0 0xFFFFFFFF, .attrValue 3 0 0]

/-- V-L3 and V-L4: another value, and the sentinel in a failed read, before the sentinel. -/
theorem witness_LinkWaitRunsToCompletion :
    linkRun.phase = .idle ∧ linkRun.resetIn = [] ∧ linkRun.requests = encode .waitLinkUp :: [] ∧
    (∀ a ∈ linkDown, ¬ (a.2.2 = 0 ∧ a.1 = linkRun.cfg.linkUpValue)) ∧
    linkRun.answers =
      linkDown.map (fun a => .attrValue a.1 a.2.1 a.2.2) ++ .attrValue linkRun.cfg.linkUpValue 0 0 :: [] := by
  refine ⟨by decide, by decide, by decide, ?_, by decide⟩
  simp only [linkDown, List.forall_mem_cons, List.not_mem_nil, false_implies, implies_true, and_true]; decide

/-- V-R11, two polls. -/
theorem witness_QueueWaitHasNoBound :
    (running .rsWaitTxq 1 2 [.word 0, .word 0xFFFFFFFB]).phase = .rsWaitTxq ∧
    (running .rsWaitTxq 1 2 [.word 0, .word 0xFFFFFFFB]).rsId = some 2 ∧
    (running .rsWaitTxq 1 2 [.word 0, .word 0xFFFFFFFB]).resetIn = [] ∧
    (∀ v ∈ [0#32, 0xFFFFFFFB#32], v &&& txqeMask 2 = 0) ∧
    (running .rsWaitTxq 1 2 [.word 0, .word 0xFFFFFFFB]).answers = [0#32, 0xFFFFFFFB#32].map .word ++ [] := by
  refine ⟨by decide, by decide, by decide, ?_, by decide⟩
  simp only [List.forall_mem_cons, List.not_mem_nil, false_implies, implies_true, and_true]; decide

/-- V-X3's words: every bit but id 2's. -/
theorem witness_BlockingReceiveHasNoBound :
    (running .rxPollEom 4 2 [.word 0xFFFFFFCF, .word 0xFFFFFFFB]).phase = .rxPollEom ∧
    (running .rxPollEom 4 2 [.word 0xFFFFFFCF, .word 0xFFFFFFFB]).cmdId = some 2 ∧
    (running .rxPollEom 4 2 [.word 0xFFFFFFCF, .word 0xFFFFFFFB]).cmdBlocking = some true ∧
    (running .rxPollEom 4 2 [.word 0xFFFFFFCF, .word 0xFFFFFFFB]).resetIn = [] ∧
    (∀ c ∈ [(0xFFFFFFCF#32, 0xFFFFFFFB#32)], c.1 &&& eomErrorMask 2 = 0 ∧ c.2 &&& eotMask 2 = 0 ∧
      c.1 &&& eomNormalMask 2 = 0) ∧
    (running .rxPollEom 4 2 [.word 0xFFFFFFCF, .word 0xFFFFFFFB]).answers =
      [(0xFFFFFFCF#32, 0xFFFFFFFB#32)].flatMap (fun c => [.word c.1, .word c.2]) ++ [] := by
  refine ⟨by decide, by decide, by decide, by decide, ?_, by decide⟩
  simp only [List.forall_mem_cons, List.not_mem_nil, false_implies, implies_true, and_true]; decide

/-- Ids of one EOM word, of one TXQE word, and of another word. -/
theorem witness_MasksAreSeparate :
    (0#16).toNat % 16 ≠ (15#16).toNat % 16 ∧ (0#16).toNat % 32 ≠ (31#16).toNat % 32 := by decide

/-- Id 15's bit is bit 30 of its word; bit 31 is another. -/
theorem witness_ClearTouchesOwnBitOnly :
    30 < 32 ∧ 30 = 2 * ((15#16).toNat % 16) ∧ 31 < 32 ∧ 31 ≠ 2 * ((15#16).toNat % 16) := by decide

theorem witness_OnlySendWritesBytes :
    (running .txEom 5 3 []).resetIn.head? ≠ some true ∧
    goesTo (step (running .txEom 5 3 []))
      (fun t => t.history == [⟨.memWrite8 0x10380 1, .nothing⟩]) = true := by decide

end Sys2Proof.Tests
end

section
/-! What each phase's transaction can do, said once: if it goes on, then these registers held these values, the
environment gave this answer, and this is the next state (10_state.md R36, R37). A phase that ends its command
leaves `complete` in its rule; `complete_eq_next` says what that does. -/

namespace Sys2Proof.Machine

open Sys2Proof

variable {s t : State}

theorem outcome_next_eq_next {u : State} : (.next u : Res State) = .next t ↔ t = u := by
  simp [eq_comm]

theorem branch_eq_next {c : Prop} [Decidable c] {x y : Res State} :
    (if c then x else y) = .next t ↔ (c ∧ x = .next t) ∨ (¬ c ∧ y = .next t) := by
  split <;> simp_all

/-! ### The reset sequence (41_reset_engine.md R171 to R181) -/

theorem rsWaitTxq_eq_next :
    rsWaitTxq s = .next t ↔ ∃ id, s.rsId = some id ∧
      ((s.answerTo (.memRead32 (s.cfg.txqeAddr id)) = .never ∧ t = s) ∨
        ∃ w, s.answerTo (.memRead32 (s.cfg.txqeAddr id)) = .word w ∧
          t = if bitSet w (txqeMask id) then
              { s.asked (.memRead32 (s.cfg.txqeAddr id)) with phase := .rsTxAssert }
            else s.asked (.memRead32 (s.cfg.txqeAddr id))) := by
  simp only [rsWaitTxq, andThen_eq_next, readReg_eq_next, memRead32_eq_next, outcome_next_eq_next]

theorem rsTxAssert_eq_next :
    rsTxAssert s = .next t ↔ ∃ id, s.rsId = some id ∧
      t = { s.wrote (.memWrite32 (s.cfg.txResetAddr id) s.cfg.txResetWord) with phase := .rsAttr 0 } := by
  simp only [rsTxAssert, andThen_eq_next, readReg_eq_next, memWrite32, outcome_next_eq_next]

theorem rsAttr_eq_next {j : Fin 4} :
    rsAttr j s = .next t ↔ ∃ id, s.rsId = some id ∧
      ((s.answerTo (.attrWrite (s.cfg.resetAttr j) 0#32 id false) = .never ∧ t = s) ∨
        ∃ rc st, s.answerTo (.attrWrite (s.cfg.resetAttr j) 0#32 id false) = .attrWritten rc st ∧
          ((st = 0#32 ∧
              t = { s.attrAsked (.attrWrite (s.cfg.resetAttr j) 0#32 id false) rc st with
                phase := if j = 3 then .rsRxAssert else .rsAttr (j + 1) }) ∨
            (st ≠ 0#32 ∧
              complete .ioError 0#32 id
                ((s.attrAsked (.attrWrite (s.cfg.resetAttr j) 0#32 id false) rc st).setLife id
                  .halfReset) = .next t))) := by
  simp only [rsAttr, andThen_eq_next, readReg_eq_next, attrWrite_eq_next, branch_eq_next,
    outcome_next_eq_next]

theorem rsRxAssert_eq_next :
    rsRxAssert s = .next t ↔ ∃ id, s.rsId = some id ∧
      t = { s.wrote (.memWrite32 (s.cfg.rxResetAddr id) s.cfg.rxResetWord) with
        phase := .rsTxDeassert } := by
  simp only [rsRxAssert, andThen_eq_next, readReg_eq_next, memWrite32, outcome_next_eq_next]

theorem rsTxDeassert_eq_next :
    rsTxDeassert s = .next t ↔ ∃ id, s.rsId = some id ∧
      t = { s.wrote (.memWrite32 (s.cfg.txResetAddr id) 0#32) with phase := .rsRxDeassert } := by
  simp only [rsTxDeassert, andThen_eq_next, readReg_eq_next, memWrite32, outcome_next_eq_next]

theorem resetAdvance_eq_next :
    resetAdvance s = .next t ↔ ∃ k, s.k = some k ∧
      (((k + 1#32).toNat < s.cfg.cportMax ∧
          t = { s with k := some (k + 1#32), rsId := some ((k + 1#32).setWidth 16),
                       phase := .rsWaitTxq }) ∨
        (s.cfg.cportMax ≤ (k + 1#32).toNat ∧
          complete .ok 0#32 0#16 { s with k := some (k + 1#32) } = .next t)) := by
  simp only [resetAdvance, andThen_eq_next, readReg_eq_next, branch_eq_next, not_lt,
    outcome_next_eq_next]

theorem rsRxDeassert_eq_next :
    rsRxDeassert s = .next t ↔ ∃ id op, s.rsId = some id ∧ s.cmdOp = some op ∧
      ((op = 1#4 ∧
          complete .ok 0#32 0#16
            ((s.wrote (.memWrite32 (s.cfg.rxResetAddr id) 0#32)).setLife id .resetDone) = .next t) ∨
        ((op = 2#4 ∨ op = 9#4) ∧
          resetAdvance
            ((s.wrote (.memWrite32 (s.cfg.rxResetAddr id) 0#32)).setLife id .resetDone) = .next t)) := by
  have another (op : BitVec 4) :
      (¬ op = 1#4 ∧ (op = 2#4 ∨ op = 9#4)) ↔ (op = 2#4 ∨ op = 9#4) := by revert op; decide
  simp only [rsRxDeassert, andThen_eq_next, readReg_eq_next, memWrite32, branch_eq_next, reduceCtorEq,
    and_false, or_false, Bool.or_eq_true, decide_eq_true_eq, ← and_assoc, another]
  simp only [exists_and_left, and_assoc]

/-! ### The arm sequence and RECEIVE (42_rx_engine.md R200 to R214) -/

theorem armAddr_eq_next :
    armAddr s = .next t ↔ ∃ id, s.cmdId = some id ∧
      t = { s.wrote (.memWrite32 (s.cfg.rxBufAddrReg id) (s.cfg.rxBuf id)) with phase := .armPause } := by
  simp only [armAddr, andThen_eq_next, readReg_eq_next, memWrite32, outcome_next_eq_next]

/-- The value that ARM_PAUSE answers: 0 for INIT_CPORT and for a RECEIVE without a handler, else the
handler's return code (42_rx_engine.md R201, R214). -/
theorem armPause_eq_next :
    armPause s = .next t ↔ ∃ id op, s.cmdId = some id ∧ s.cmdOp = some op ∧ ∃ value,
      (op = 3#4 ∧ value = 0#32 ∨
        op = 4#4 ∧ s.cmdHandler = some false ∧ value = 0#32 ∨
        op = 4#4 ∧ s.cmdHandler = some true ∧ s.rxRc = some value) ∧
      complete .ok value 0#16
        ((s.wrote (.memWrite32 (s.cfg.rxPauseReg id) s.cfg.rxPauseValue)).setLife id .armed) =
          .next t := by
  constructor
  · intro h
    simp only [armPause, andThen_eq_next, readReg_eq_next, memWrite32, branch_eq_next, reduceCtorEq,
      and_false, or_false] at h
    obtain ⟨id, hid, op, hop, ⟨h3, hc⟩ | ⟨-, h4, h, hh, ⟨rfl, rc, hrc, hc⟩ | ⟨hf, hc⟩⟩⟩ := h
    · exact ⟨id, op, hid, hop, _, .inl ⟨h3, rfl⟩, hc⟩
    · exact ⟨id, op, hid, hop, rc, .inr (.inr ⟨h4, hh, hrc⟩), hc⟩
    · exact ⟨id, op, hid, hop, _, .inr (.inl ⟨h4, by simpa [hf] using hh, rfl⟩), hc⟩
  · rintro ⟨id, op, hid, hop, value, ⟨rfl, rfl⟩ | ⟨rfl, hh, rfl⟩ | ⟨rfl, hh, hrc⟩, hc⟩ <;>
      simp_all [armPause, memWrite32]

theorem rxPollEom_eq_next :
    rxPollEom s = .next t ↔ ∃ id, s.cmdId = some id ∧
      ((s.answerTo (.memRead32 (s.cfg.eomWordAddr id)) = .never ∧ t = s) ∨
        ∃ w, s.answerTo (.memRead32 (s.cfg.eomWordAddr id)) = .word w ∧
          t = { s.asked (.memRead32 (s.cfg.eomWordAddr id)) with
            rxEomw := some w, phase := .rxPollEot }) := by
  simp only [rxPollEom, andThen_eq_next, readReg_eq_next, memRead32_eq_next, outcome_next_eq_next]

/-- The classification tries its five results in the order of 42_rx_engine.md R209. -/
theorem classify_eq_next {id : U16} {eomw eotw : U32} {blocking : Bool} :
    classify id eomw eotw blocking s = .next t ↔
      (bitSet eomw (eomErrorMask id) = true ∧
          complete .receiveError 0#32 0#16 (s.setLife id .failedRx) = .next t) ∨
        (¬ bitSet eomw (eomErrorMask id) = true ∧
          ((bitSet eotw (eotMask id) = true ∧
              complete .overflow 0#32 0#16 (s.setLife id .failedRx) = .next t) ∨
            (¬ bitSet eotw (eotMask id) = true ∧
              ((bitSet eomw (eomNormalMask id) = true ∧
                  t = { s.setLife id .dispatched with phase := .rxCount }) ∨
                (¬ bitSet eomw (eomNormalMask id) = true ∧
                  ((blocking = true ∧ t = { s with phase := .rxPollEom }) ∨
                    (¬ blocking = true ∧ complete .ok 0#32 0#16 s = .next t))))))) := by
  simp only [classify, branch_eq_next, outcome_next_eq_next]

theorem rxPollEot_eq_next :
    rxPollEot s = .next t ↔ ∃ id blocking eomw,
      s.cmdId = some id ∧ s.cmdBlocking = some blocking ∧ s.rxEomw = some eomw ∧
      ((s.answerTo (.memRead32 (s.cfg.eotWordAddr id)) = .never ∧ t = s) ∨
        ∃ w, s.answerTo (.memRead32 (s.cfg.eotWordAddr id)) = .word w ∧
          classify id eomw w blocking
            { s.asked (.memRead32 (s.cfg.eotWordAddr id)) with rxEotw := some w } = .next t) := by
  simp only [rxPollEot, andThen_eq_next, readReg_eq_next, memRead32_eq_next, exists_and_left]

theorem rxReadCount_eq_next :
    rxReadCount s = .next t ↔ ∃ id, s.cmdId = some id ∧
      ((s.answerTo (.memRead32 (s.cfg.rxXferSizeReg id)) = .never ∧ t = s) ∨
        ∃ w, s.answerTo (.memRead32 (s.cfg.rxXferSizeReg id)) = .word w ∧
          t = { s.asked (.memRead32 (s.cfg.rxXferSizeReg id)) with
            rxCount := some w, phase := .rxClear }) := by
  simp only [rxReadCount, andThen_eq_next, readReg_eq_next, memRead32_eq_next, outcome_next_eq_next]

theorem rxClear_eq_next :
    rxClear s = .next t ↔ ∃ id h, s.cmdId = some id ∧ s.cmdHandler = some h ∧
      t = { s.wrote (.memWrite32 (s.cfg.eomWordAddr id) (eomNormalMask id)) with
        phase := if h then .rxHandler else .armAddr } := by
  simp only [rxClear, andThen_eq_next, readReg_eq_next, memWrite32, outcome_next_eq_next, exists_and_left]

theorem rxHandler_eq_next :
    rxHandler s = .next t ↔ ∃ id count, s.cmdId = some id ∧ s.rxCount = some count ∧
      ((s.answerTo (.handlerCall id (s.cfg.rxBuf id) count) = .never ∧ t = s) ∨
        ∃ rc, s.answerTo (.handlerCall id (s.cfg.rxBuf id) count) = .handlerReturn rc ∧
          t = { s.asked (.handlerCall id (s.cfg.rxBuf id) count) with
            rxRc := some rc, phase := .armAddr }) := by
  simp only [rxHandler, andThen_eq_next, readReg_eq_next, handlerCall_eq_next, outcome_next_eq_next,
    exists_and_left]

/-! ### SEND (43_tx_engine.md R242, R243) -/

theorem txCopy_eq_next :
    txCopy s = .next t ↔ ∃ id len k data b, s.cmdId = some id ∧ s.cmdLen = some len ∧ s.k = some k ∧
      s.cmdData = some data ∧ data[k.toNat]? = some b ∧
      t = { s.wrote (.memWrite8 (s.cfg.txBuf id + k) b) with
        k := some (k + 1#32)
        phase := if (k + 1#32).toNat < len.toNat then .txCopy else .txEom } := by
  simp only [txCopy, andThen_eq_next, readReg_eq_next, memWrite8, outcome_next_eq_next, exists_and_left]

theorem txEom_eq_next :
    txEom s = .next t ↔ ∃ id, s.cmdId = some id ∧
      complete .ok 0#32 0#16 (s.wrote (.memWrite8 (s.cfg.txEom id) s.cfg.eomTriggerValue)) = .next t := by
  simp only [txEom, andThen_eq_next, readReg_eq_next, memWrite8]

/-! ### RECV_CPORT (44_assignment.md R261 to R266) -/

/-- The lookup of an id below CPORT_MAX finds it, so the second check of R266 never ends the command. -/
theorem mbReadPhase_eq_next :
    mbReadPhase s = .next t ↔
      (s.answerTo .mbxRead = .never ∧ t = s) ∨
      ∃ v st, s.answerTo .mbxRead = .mbxValue v st ∧
        ((st ≠ 0#32 ∧
            complete .mailboxError st 0#16 { s.asked .mbxRead with mbValue := some v } = .next t) ∨
          (st = 0#32 ∧ s.cfg.cportMax ≤ (mailboxId v).toNat ∧
            complete .invalidArgument 0#32 0#16 { s.asked .mbxRead with mbValue := some v } = .next t) ∨
          (st = 0#32 ∧ (mailboxId v).toNat < s.cfg.cportMax ∧
            t = { s.asked .mbxRead with mbValue := some v, phase := .mbAck })) := by
  have found (v : U32) : s.cfg.lookup (mailboxId v) = none ↔ s.cfg.cportMax ≤ (mailboxId v).toNat := by
    simp [Config.lookup]
  have checkedTwice (c p q : Prop) : (c ∧ p ∨ ¬ c ∧ (c ∧ p ∨ ¬ c ∧ q)) ↔ (c ∧ p ∨ ¬ c ∧ q) := by tauto
  simp only [mbReadPhase, mbxRead_eq_next, branch_eq_next, outcome_next_eq_next, State.asked_cfg, found,
    checkedTwice]
  simp only [ne_eq, not_not, not_le, and_or_left]

theorem mbAckPhase_eq_next :
    mbAckPhase s = .next t ↔ ∃ v, s.mbValue = some v ∧
      ((s.answerTo (.mbxAck (v.setWidth 16)) = .never ∧ t = s) ∨
        ∃ st, s.answerTo (.mbxAck (v.setWidth 16)) = .mbxStatus st ∧
          ((s.cfg.ackStatusChecked = true ∧ st ≠ 0#32 ∧
              complete .mailboxError st 0#16 (s.asked (.mbxAck (v.setWidth 16))) = .next t) ∨
            ((s.cfg.ackStatusChecked = true → st = 0#32) ∧
              complete .ok (mailboxId v) 0#16 (s.asked (.mbxAck (v.setWidth 16))) = .next t))) := by
  simp only [mbAckPhase, andThen_eq_next, readReg_eq_next, mbxAck_eq_next, branch_eq_next]
  simp only [State.asked_cfg, Bool.and_eq_true, bne_iff_ne, not_and, ne_eq, not_not, and_assoc]

/-! ### WAIT_LINK_UP and PREPARE_READINESS (45_link_flow_control.md R281 to R286) -/

theorem lkPoll_eq_next :
    lkPoll s = .next t ↔
      (s.answerTo (.attrRead s.cfg.attrPowerstate s.cfg.powerstateSelector false) = .never ∧ t = s) ∨
      ∃ v rc st,
        s.answerTo (.attrRead s.cfg.attrPowerstate s.cfg.powerstateSelector false) =
          .attrValue v rc st ∧
        ((st = 0#32 ∧ v = s.cfg.linkUpValue ∧
            complete .ok 0#32 0#16
              (s.attrAsked (.attrRead s.cfg.attrPowerstate s.cfg.powerstateSelector false) rc st) =
                .next t) ∨
          ((st = 0#32 → v ≠ s.cfg.linkUpValue) ∧
            t = s.attrAsked (.attrRead s.cfg.attrPowerstate s.cfg.powerstateSelector false) rc st)) := by
  simp only [lkPoll, attrRead_eq_next, branch_eq_next, outcome_next_eq_next]
  simp only [State.attrAsked_cfg, Bool.and_eq_true, decide_eq_true_eq, beq_iff_eq, not_and, ne_eq, and_assoc]

theorem fcEn0_eq_next :
    fcEn0 s = .next t ↔
      t = { s.wrote (.memWrite32 s.cfg.regE2efcEn0 0#32) with phase := .fcEn1 } := by
  simp only [fcEn0, memWrite32, outcome_next_eq_next]

theorem fcEn1_eq_next :
    fcEn1 s = .next t ↔
      complete .ok 0#32 0#16 (s.wrote (.memWrite32 s.cfg.regE2efcEn1 0#32)) = .next t := by
  simp only [fcEn1, memWrite32]

end Sys2Proof.Machine
end

section
/-! What the accept step can do: a command that passes the checks of 40_command_interface.md R142 starts, any
other request completes at once or is refused. -/

namespace Sys2Proof.Machine

open Sys2Proof

theorem acceptWithId_encode (i : Instr) (go : State → Res State) (s : State) :
    acceptWithId (encode i) go s =
      if s.cfg.idInRange i.id then go (s.latch (encode i))
      else .next ((s.latch (encode i)).completed .invalidArgument 0#32 0#16 0#32 0#32) := by
  rw [acceptWithId, show idField (encode i).word = i.id from idField_encodeWord .., complete_latch]

/-- The accept step of a well-formed command (40_command_interface.md R141 to R145). -/
theorem exec_of_idle {i : Instr} {s : State} (hi : s.phase = .idle) (hw : i.wellFormed = true) :
    exec i s = .next (
      if passesChecks s.cfg i then
        { s.latch (encode i) with rsId := startRsId i s.rsId, phase := startPhase i }
      else (s.latch (encode i)).completed .invalidArgument 0#32 0#16 0#32 0#32) := by
  cases i with
  | resetAll | recvCport | waitLinkUp | prepareReadiness | prepareHandoff =>
    simp [exec, execResetAll, execRecvCport, execWaitLinkUp, execPrepareReadiness, execPrepareHandoff,
      hi, passesChecks, Instr.takesId, Instr.len, startPhase, startRsId]
  | resetOne id | initCport id | receive b h id =>
    by_cases hid : s.cfg.idInRange id = true <;>
      simp [exec, execResetOne, execInitCport, execReceive, hi, acceptWithId_encode, hid,
        passesChecks, Instr.takesId, Instr.id, Instr.len, startPhase, startRsId]
  | send id len data =>
    have hlen : len.toNat = data.length := by simpa [Instr.wellFormed] using hw
    have hstart : startPhase (.send id len data) = if len = 0#32 then .txEom else .txCopy := by
      have hpos : 0 < len.toNat ↔ len ≠ 0#32 := by bv_omega
      simp [startPhase, hpos]
    simp only [exec, execSend, hi, if_pos hlen, acceptWithId_encode, startSend, complete_latch, hstart,
      State.latch_cfg, Instr.id]
    by_cases hid : s.cfg.idInRange id = true <;> by_cases hbig : s.cfg.txBufSize < len.toNat <;>
      simp [passesChecks, Instr.takesId, Instr.id, Instr.len, startRsId, hid, hbig,
        Nat.not_le.2, Nat.not_lt.1]

/-- A SEND whose data does not hold len bytes is refused at the command port (30_encoding.md R115). -/
theorem exec_of_illFormed {i : Instr} {s : State} (hi : s.phase = .idle) (hw : i.wellFormed = false) :
    exec i s = .refused .malformedRequest := by
  cases i with
  | send id len data =>
    have hlen : ¬ len.toNat = data.length := by simpa [Instr.wellFormed] using hw
    simp [exec, execSend, hi, hlen]
  | _ => simp [Instr.wellFormed] at hw

end Sys2Proof.Machine
end

section
/-! A step of a running command performs the one transaction of its phase or waits for its answer, and an accept
step performs none (00_scope.md R7, 10_state.md R37, R47). -/

namespace Sys2Proof.Machine

open Sys2Proof

/-- The transaction of PHASE (10_state.md R36), `none` when IDLE: a question of `State.pendingQuestion`, or the
write of a phase that asks nothing. Registers without a value read as 0 here. -/
def State.phaseTxn (s : State) : Option Txn :=
  match s.phase with
  | .rsTxAssert => some (.memWrite32 (s.cfg.txResetAddr (s.rsId.getD 0)) s.cfg.txResetWord)
  | .rsRxAssert => some (.memWrite32 (s.cfg.rxResetAddr (s.rsId.getD 0)) s.cfg.rxResetWord)
  | .rsTxDeassert => some (.memWrite32 (s.cfg.txResetAddr (s.rsId.getD 0)) 0)
  | .rsRxDeassert => some (.memWrite32 (s.cfg.rxResetAddr (s.rsId.getD 0)) 0)
  | .armAddr =>
    some (.memWrite32 (s.cfg.rxBufAddrReg (s.cmdId.getD 0)) (s.cfg.rxBuf (s.cmdId.getD 0)))
  | .armPause => some (.memWrite32 (s.cfg.rxPauseReg (s.cmdId.getD 0)) s.cfg.rxPauseValue)
  | .rxClear =>
    some (.memWrite32 (s.cfg.eomWordAddr (s.cmdId.getD 0)) (eomNormalMask (s.cmdId.getD 0)))
  | .txCopy =>
    some (.memWrite8 (s.cfg.txBuf (s.cmdId.getD 0) + s.k.getD 0)
      ((s.cmdData.getD []).getD (s.k.getD 0).toNat 0))
  | .txEom => some (.memWrite8 (s.cfg.txEom (s.cmdId.getD 0)) s.cfg.eomTriggerValue)
  | .fcEn0 => some (.memWrite32 s.cfg.regE2efcEn0 0)
  | .fcEn1 => some (.memWrite32 s.cfg.regE2efcEn1 0)
  | .idle | .rsWaitTxq | .rsAttr _ | .rxPollEom | .rxPollEot | .rxCount | .rxHandler | .mbRead | .mbAck
  | .lkPoll => s.pendingQuestion

/-- From `s` to `t` the engine waits for an answer that never comes, or performs the transaction of PHASE and
appends its record (93_implementation_defined.md I24, 10_state.md R47). -/
def WaitsOrPerforms (s t : State) : Prop :=
  (s.unanswered = true ∧ t = s) ∨
    (s.unanswered = false ∧ ∃ q a, s.phaseTxn = some q ∧ t.history = s.history ++ [⟨q, a⟩])

/-! ### When a transaction is never answered -/

theorem freeAnswer_ne_never (q : Txn) (n : Nat) : q.freeAnswer n ≠ .never := by
  cases q <;> simp [Txn.freeAnswer]

theorem answerTo_eq_never {s : State} {q : Txn} :
    s.answerTo q = .never ↔ s.answers.head? = some .never := by
  unfold State.answerTo
  split <;> simp_all [freeAnswer_ne_never]

theorem unanswered_iff {s : State} :
    s.unanswered = true ↔ s.phase.asks = true ∧ s.answers.head? = some .never := by
  simp [State.unanswered]

/-! ### The three ways a phase ends -/

section

variable {s t : State} {q : Txn} {a : Answer}

theorem waits_of_never (hp : s.phase.asks = true) (ha : s.answerTo q = .never) (ht : t = s) :
    WaitsOrPerforms s t :=
  .inl ⟨unanswered_iff.2 ⟨hp, answerTo_eq_never.1 ha⟩, ht⟩

theorem performs_of_answered (hq : s.phaseTxn = some q) (ha : s.answerTo q = a) (hne : a ≠ .never)
    (ht : t.history = (s.asked q).history) : WaitsOrPerforms s t := by
  have hans : s.unanswered = false := by
    rw [← Bool.not_eq_true, unanswered_iff, ← answerTo_eq_never (q := q), ha]
    exact fun h => hne h.2
  exact .inr ⟨hans, q, _, hq, ht⟩

theorem performs_of_wrote (hp : s.phase.asks = false) (hq : s.phaseTxn = some q)
    (ht : t.history = (s.wrote q).history) : WaitsOrPerforms s t :=
  .inr ⟨by simp [State.unanswered, hp], q, _, hq, ht⟩

end

/-- `complete` is no transaction (40_command_interface.md R150). -/
theorem history_of_complete {kind : Kind} {value : U32} {failId : U16} {s t : State}
    (h : complete kind value failId s = .next t) : t.history = s.history := by
  obtain ⟨rc, st, -, -, rfl⟩ := complete_eq_next.1 h
  rfl

theorem history_of_resetAdvance {s t : State} (h : resetAdvance s = .next t) : t.history = s.history := by
  obtain ⟨k, -, ⟨-, rfl⟩ | ⟨-, hc⟩⟩ := resetAdvance_eq_next.1 h
  · rfl
  · exact (history_of_complete hc :)

theorem history_of_classify {id : U16} {eomw eotw : U32} {blocking : Bool} {s t : State}
    (h : classify id eomw eotw blocking s = .next t) : t.history = s.history := by
  obtain ⟨-, hc⟩ | ⟨-, ⟨-, hc⟩ | ⟨-, ⟨-, rfl⟩ | ⟨-, ⟨-, rfl⟩ | ⟨-, hc⟩⟩⟩⟩ := classify_eq_next.1 h
  · exact (history_of_complete hc :)
  · exact (history_of_complete hc :)
  · rfl
  · rfl
  · exact (history_of_complete hc :)

/-! ### A step of a running command -/

/-- The transaction of PHASE, by phase: each rule says that the phase waits, or what it performs. -/
theorem stepPhase_waits_or_performs {s t : State} (h : stepPhase s = .next t) : WaitsOrPerforms s t := by
  unfold stepPhase at h
  cases hp : s.phase <;> simp only [hp] at h
  case idle => cases h
  case rsWaitTxq =>
    obtain ⟨id, hid, ⟨ha, ht⟩ | ⟨w, ha, rfl⟩⟩ := rsWaitTxq_eq_next.1 h
    · exact waits_of_never (by rw [hp]; rfl) ha ht
    · exact performs_of_answered (by simp [State.phaseTxn, State.pendingQuestion, hp, hid]) ha nofun
        (by split <;> rfl)
  case rsTxAssert =>
    obtain ⟨id, hid, rfl⟩ := rsTxAssert_eq_next.1 h
    exact performs_of_wrote (by rw [hp]; rfl) (by simp [State.phaseTxn, hp, hid]) rfl
  case rsAttr j =>
    obtain ⟨id, hid, ⟨ha, ht⟩ | ⟨rc, st, ha, ⟨-, rfl⟩ | ⟨-, hc⟩⟩⟩ := rsAttr_eq_next.1 h
    · exact waits_of_never (by rw [hp]; rfl) ha ht
    · exact performs_of_answered (by simp [State.phaseTxn, State.pendingQuestion, hp, hid]) ha nofun rfl
    · exact performs_of_answered (by simp [State.phaseTxn, State.pendingQuestion, hp, hid]) ha nofun
        (history_of_complete hc :)
  case rsRxAssert =>
    obtain ⟨id, hid, rfl⟩ := rsRxAssert_eq_next.1 h
    exact performs_of_wrote (by rw [hp]; rfl) (by simp [State.phaseTxn, hp, hid]) rfl
  case rsTxDeassert =>
    obtain ⟨id, hid, rfl⟩ := rsTxDeassert_eq_next.1 h
    exact performs_of_wrote (by rw [hp]; rfl) (by simp [State.phaseTxn, hp, hid]) rfl
  case rsRxDeassert =>
    obtain ⟨id, op, hid, -, hc⟩ := rsRxDeassert_eq_next.1 h
    refine performs_of_wrote (q := .memWrite32 (s.cfg.rxResetAddr id) 0#32) (by rw [hp]; rfl)
      (by simp [State.phaseTxn, hp, hid]) ?_
    obtain ⟨-, hc⟩ | ⟨-, hc⟩ := hc
    · exact (history_of_complete hc :)
    · exact (history_of_resetAdvance hc :)
  case armAddr =>
    obtain ⟨id, hid, rfl⟩ := armAddr_eq_next.1 h
    exact performs_of_wrote (by rw [hp]; rfl) (by simp [State.phaseTxn, hp, hid]) rfl
  case armPause =>
    obtain ⟨id, op, hid, -, value, -, hc⟩ := armPause_eq_next.1 h
    exact performs_of_wrote (by rw [hp]; rfl) (by simp [State.phaseTxn, hp, hid]) (history_of_complete hc :)
  case rxPollEom =>
    obtain ⟨id, hid, ⟨ha, ht⟩ | ⟨w, ha, rfl⟩⟩ := rxPollEom_eq_next.1 h
    · exact waits_of_never (by rw [hp]; rfl) ha ht
    · exact performs_of_answered (by simp [State.phaseTxn, State.pendingQuestion, hp, hid]) ha nofun rfl
  case rxPollEot =>
    obtain ⟨id, blocking, eomw, hid, -, -, ⟨ha, ht⟩ | ⟨w, ha, hc⟩⟩ := rxPollEot_eq_next.1 h
    · exact waits_of_never (by rw [hp]; rfl) ha ht
    · exact performs_of_answered (by simp [State.phaseTxn, State.pendingQuestion, hp, hid]) ha nofun
        (history_of_classify hc :)
  case rxCount =>
    obtain ⟨id, hid, ⟨ha, ht⟩ | ⟨w, ha, rfl⟩⟩ := rxReadCount_eq_next.1 h
    · exact waits_of_never (by rw [hp]; rfl) ha ht
    · exact performs_of_answered (by simp [State.phaseTxn, State.pendingQuestion, hp, hid]) ha nofun rfl
  case rxClear =>
    obtain ⟨id, b, hid, -, rfl⟩ := rxClear_eq_next.1 h
    exact performs_of_wrote (by rw [hp]; rfl) (by simp [State.phaseTxn, hp, hid]) rfl
  case rxHandler =>
    obtain ⟨id, count, hid, hcount, ⟨ha, ht⟩ | ⟨rc, ha, rfl⟩⟩ := rxHandler_eq_next.1 h
    · exact waits_of_never (by rw [hp]; rfl) ha ht
    · exact performs_of_answered (by simp [State.phaseTxn, State.pendingQuestion, hp, hid, hcount]) ha nofun
        rfl
  case txCopy =>
    obtain ⟨id, len, k, data, b, hid, -, hk, hdata, hb, rfl⟩ := txCopy_eq_next.1 h
    exact performs_of_wrote (by rw [hp]; rfl) (by simp [State.phaseTxn, hp, hid, hk, hdata, hb]) rfl
  case txEom =>
    obtain ⟨id, hid, hc⟩ := txEom_eq_next.1 h
    exact performs_of_wrote (by rw [hp]; rfl) (by simp [State.phaseTxn, hp, hid]) (history_of_complete hc :)
  case mbRead =>
    obtain ⟨ha, ht⟩ | ⟨v, st, ha, ⟨-, hc⟩ | ⟨-, -, hc⟩ | ⟨-, -, rfl⟩⟩ := mbReadPhase_eq_next.1 h
    · exact waits_of_never (by rw [hp]; rfl) ha ht
    · exact performs_of_answered (by simp [State.phaseTxn, State.pendingQuestion, hp]) ha nofun
        (history_of_complete hc :)
    · exact performs_of_answered (by simp [State.phaseTxn, State.pendingQuestion, hp]) ha nofun
        (history_of_complete hc :)
    · exact performs_of_answered (by simp [State.phaseTxn, State.pendingQuestion, hp]) ha nofun rfl
  case mbAck =>
    obtain ⟨v, hv, ⟨ha, ht⟩ | ⟨st, ha, ⟨-, -, hc⟩ | ⟨-, hc⟩⟩⟩ := mbAckPhase_eq_next.1 h
    · exact waits_of_never (by rw [hp]; rfl) ha ht
    · exact performs_of_answered (by simp [State.phaseTxn, State.pendingQuestion, hp, hv]) ha nofun
        (history_of_complete hc :)
    · exact performs_of_answered (by simp [State.phaseTxn, State.pendingQuestion, hp, hv]) ha nofun
        (history_of_complete hc :)
  case lkPoll =>
    obtain ⟨ha, ht⟩ | ⟨v, rc, st, ha, ⟨-, -, hc⟩ | ⟨-, rfl⟩⟩ := lkPoll_eq_next.1 h
    · exact waits_of_never (by rw [hp]; rfl) ha ht
    · exact performs_of_answered (by simp [State.phaseTxn, State.pendingQuestion, hp]) ha nofun
        (history_of_complete hc :)
    · exact performs_of_answered (by simp [State.phaseTxn, State.pendingQuestion, hp]) ha nofun rfl
  case fcEn0 =>
    obtain rfl := fcEn0_eq_next.1 h
    exact performs_of_wrote (by rw [hp]; rfl) (by simp [State.phaseTxn, hp]) rfl
  case fcEn1 =>
    exact performs_of_wrote (by rw [hp]; rfl) (by simp [State.phaseTxn, hp])
      (history_of_complete (fcEn1_eq_next.1 h) :)

/-! ### The accept step -/

theorem history_of_exec_of_idle {i : Instr} {s t : State} (hi : s.phase = .idle) (h : exec i s = .next t) :
    t.history = s.history := by
  cases hw : i.wellFormed with
  | false => simp [exec_of_illFormed hi hw] at h
  | true =>
    obtain rfl := outcome_next_eq_next.1 ((exec_of_idle hi hw).symm.trans h)
    split <;> rfl

theorem history_of_acceptRequest {r : Request} {s t : State} (hi : s.phase = .idle)
    (h : acceptRequest r s = .next t) : t.history = s.history := by
  unfold acceptRequest at h
  split at h
  · exact history_of_exec_of_idle hi h
  · obtain ⟨-, rfl⟩ := acceptIllegal_eq_next.1 h
    rfl

theorem history_of_step_of_idle {s t : State} (hi : s.phase = .idle) (hn : s.resetIn.head? ≠ some true)
    (h : step s = .next t) : t.history = s.history := by
  cases hr : s.requests with
  | nil => simp [step_of_noReset hn, commandStep, hi, hr] at h
  | cons r rest =>
    rw [step_of_idle hi hn hr] at h
    exact history_of_acceptRequest (s := { s with requests := rest, resetIn := s.resetIn.tail }) hi h

end Sys2Proof.Machine

open Sys2Proof Sys2Proof.Machine

/-- Settles O39: an accept step leaves the history alone, and the transaction of PHASE is waited for or appends
its one record. -/
theorem oneTransactionPerStep : Obligations.OneTransactionPerStep := by
  intro s t hn h
  have busy (hb : s.phase ≠ .idle) : WaitsOrPerforms { s with resetIn := s.resetIn.tail } t :=
    stepPhase_waits_or_performs (step_of_busy hb hn ▸ h)
  refine ⟨fun hi => history_of_step_of_idle hi hn h, fun hb ha => ?_, fun hb ha => ?_⟩
  · obtain ⟨hu, -⟩ | ⟨-, q, a, -, ht⟩ := busy hb
    · exact absurd (ha.symm.trans hu) nofun
    · exact ⟨_, ht⟩
  · obtain ⟨-, ht⟩ | ⟨hu, -⟩ := busy hb
    · exact ht
    · exact absurd (ha.symm.trans hu) nofun

end

section
/-! Building an engine from a configuration (00_scope.md R9, 70_reset_and_hazards.md R334). -/

namespace Sys2Proof.Machine

open Sys2Proof

theorem build_of_wf {c : Config} (h : c.wf = true) : State.build c = .next (State.resetWith c) := by
  rw [State.build, if_pos h]

theorem build_of_not_wf {c : Config} (h : c.wf = false) : State.build c = .refused .badConfiguration := by
  rw [State.build, h, if_neg Bool.false_ne_true]

end Sys2Proof.Machine

open Sys2Proof Sys2Proof.Machine

/-- Settles O43: the check decides which of the two outcomes of `State.build` it is. -/
theorem badConfigurationRefused : Obligations.BadConfigurationRefused :=
  fun _ => ⟨build_of_wf, build_of_not_wf⟩

end

section
/-! What a step can be, said once: a reset event, an accept step, or the transaction of PHASE (10_state.md R37,
40_command_interface.md R140, 70_reset_and_hazards.md R331). -/

namespace Sys2Proof.Machine

open Sys2Proof

/-- The state after the accept step of a command that passes the checks (40_command_interface.md R141,
R145). -/
def State.started (s : State) (i : Instr) : State :=
  { s.latch (encode i) with rsId := startRsId i s.rsId, phase := startPhase i }

/-- A request that is taken starts its command, or completes at once (40_command_interface.md R142). -/
theorem acceptRequest_cases {r : Request} {s t : State} (hi : s.phase = .idle)
    (h : acceptRequest r s = .next t) :
    (∃ i, i.wellFormed = true ∧ passesChecks s.cfg i = true ∧ t = s.started i) ∨
      ∃ q kind, t = (s.latch q).completed kind 0#32 0#16 0#32 0#32 := by
  unfold acceptRequest at h
  split at h
  case h_1 i _ =>
    cases hw : i.wellFormed with
    | false => simp [exec_of_illFormed hi hw] at h
    | true =>
      obtain rfl := outcome_next_eq_next.1 ((exec_of_idle hi hw).symm.trans h)
      split
      case isTrue hc => exact .inl ⟨i, hw, hc, rfl⟩
      case isFalse => exact .inr ⟨_, _, rfl⟩
  case h_2 =>
    obtain ⟨-, rfl⟩ := acceptIllegal_eq_next.1 h
    exact .inr ⟨_, _, rfl⟩

theorem step_cases {s t : State} (h : step s = .next t) :
    (∃ rest, s.resetIn = true :: rest ∧ t = { s with resetIn := rest }.engineReset) ∨
      (s.phase = .idle ∧ ∃ r rest, s.requests = r :: rest ∧
        acceptRequest r { s with requests := rest, resetIn := s.resetIn.tail } = .next t) ∨
      (s.phase ≠ .idle ∧ stepPhase { s with resetIn := s.resetIn.tail } = .next t) := by
  by_cases hn : s.resetIn.head? = some true
  · obtain ⟨rest, hr⟩ := List.head?_eq_some_iff.1 hn
    exact .inl ⟨rest, hr, outcome_next_eq_next.1 ((step_of_reset hr).symm.trans h)⟩
  · by_cases hi : s.phase = .idle
    · cases hr : s.requests with
      | nil => simp [step_of_noReset hn, commandStep, hi, hr] at h
      | cons r rest => exact .inr (.inl ⟨hi, r, rest, rfl, step_of_idle hi hn hr ▸ h⟩)
    · exact .inr (.inr ⟨hi, step_of_busy hi hn ▸ h⟩)

end Sys2Proof.Machine
end

section
/-! What the transaction of PHASE never writes: the configuration and the operand registers; and what it never
empties: the lifecycle list, K, LAST_ATTR_RC and LAST_ATTR_ST (10_state.md R32, R34, R40). -/

namespace Sys2Proof.Machine

open Sys2Proof

/-- From `s` to `t` the running command stays: `t` has the configuration and the operand registers of `s`, as many
lifecycles, and values in K, LAST_ATTR_RC and LAST_ATTR_ST where `s` has them. A record update that leaves these
alone needs no more than the default proofs of the parts. -/
structure KeepsCommand (s t : State) : Prop where
  cfg : t.cfg = s.cfg := by rfl
  cmdOp : t.cmdOp = s.cmdOp := by rfl
  cmdId : t.cmdId = s.cmdId := by rfl
  cmdBlocking : t.cmdBlocking = s.cmdBlocking := by rfl
  cmdHandler : t.cmdHandler = s.cmdHandler := by rfl
  cmdLen : t.cmdLen = s.cmdLen := by rfl
  cmdData : t.cmdData = s.cmdData := by rfl
  lifeLength : t.life.length = s.life.length := by simp
  k : s.k.isSome = true → t.k.isSome = true := by simp
  lastAttrRc : s.lastAttrRc.isSome = true → t.lastAttrRc.isSome = true := by simp
  lastAttrSt : s.lastAttrSt.isSome = true → t.lastAttrSt.isSome = true := by simp

theorem KeepsCommand.trans {s u t : State} (hsu : KeepsCommand s u) (hut : KeepsCommand u t) :
    KeepsCommand s t where
  cfg := hut.cfg.trans hsu.cfg
  cmdOp := hut.cmdOp.trans hsu.cmdOp
  cmdId := hut.cmdId.trans hsu.cmdId
  cmdBlocking := hut.cmdBlocking.trans hsu.cmdBlocking
  cmdHandler := hut.cmdHandler.trans hsu.cmdHandler
  cmdLen := hut.cmdLen.trans hsu.cmdLen
  cmdData := hut.cmdData.trans hsu.cmdData
  lifeLength := hut.lifeLength.trans hsu.lifeLength
  k := hut.k ∘ hsu.k
  lastAttrRc := hut.lastAttrRc ∘ hsu.lastAttrRc
  lastAttrSt := hut.lastAttrSt ∘ hsu.lastAttrSt

/-- `complete` writes the response, DONE and PHASE only (40_command_interface.md R150). -/
theorem KeepsCommand.complete {kind : Kind} {value : U32} {failId : U16} {s u t : State}
    (hc : Machine.complete kind value failId u = .next t) (hsu : KeepsCommand s u := by exact {}) :
    KeepsCommand s t := by
  obtain ⟨rc, st, -, -, rfl⟩ := complete_eq_next.1 hc
  exact hsu.trans {}

theorem KeepsCommand.resetAdvance {s u t : State} (h : Machine.resetAdvance u = .next t)
    (hsu : KeepsCommand s u := by exact {}) : KeepsCommand s t := by
  obtain ⟨k, -, ⟨-, rfl⟩ | ⟨-, hc⟩⟩ := resetAdvance_eq_next.1 h
  · exact hsu.trans {}
  · exact hsu.trans (.complete hc)

theorem KeepsCommand.classify {id : U16} {eomw eotw : U32} {blocking : Bool} {s u t : State}
    (h : Machine.classify id eomw eotw blocking u = .next t) (hsu : KeepsCommand s u := by exact {}) :
    KeepsCommand s t := by
  obtain ⟨-, hc⟩ | ⟨-, ⟨-, hc⟩ | ⟨-, ⟨-, rfl⟩ | ⟨-, ⟨-, rfl⟩ | ⟨-, hc⟩⟩⟩⟩ := classify_eq_next.1 h
  · exact hsu.trans (.complete hc)
  · exact hsu.trans (.complete hc)
  · exact hsu.trans {}
  · exact hsu.trans {}
  · exact hsu.trans (.complete hc)

theorem stepPhase_keepsCommand {s t : State} (h : stepPhase s = .next t) : KeepsCommand s t := by
  unfold stepPhase at h
  cases hp : s.phase <;> simp only [hp] at h
  case idle => cases h
  case rsWaitTxq =>
    obtain ⟨id, -, ⟨-, rfl⟩ | ⟨w, -, rfl⟩⟩ := rsWaitTxq_eq_next.1 h
    · exact {}
    · split <;> exact {}
  case rsTxAssert =>
    obtain ⟨id, -, rfl⟩ := rsTxAssert_eq_next.1 h
    exact {}
  case rsAttr j =>
    obtain ⟨id, -, ⟨-, rfl⟩ | ⟨rc, st, -, ⟨-, rfl⟩ | ⟨-, hc⟩⟩⟩ := rsAttr_eq_next.1 h
    · exact {}
    · exact {}
    · exact .complete hc
  case rsRxAssert =>
    obtain ⟨id, -, rfl⟩ := rsRxAssert_eq_next.1 h
    exact {}
  case rsTxDeassert =>
    obtain ⟨id, -, rfl⟩ := rsTxDeassert_eq_next.1 h
    exact {}
  case rsRxDeassert =>
    obtain ⟨id, op, -, -, ⟨-, hc⟩ | ⟨-, ha⟩⟩ := rsRxDeassert_eq_next.1 h
    · exact .complete hc
    · exact .resetAdvance ha
  case armAddr =>
    obtain ⟨id, -, rfl⟩ := armAddr_eq_next.1 h
    exact {}
  case armPause =>
    obtain ⟨id, op, -, -, value, -, hc⟩ := armPause_eq_next.1 h
    exact .complete hc
  case rxPollEom =>
    obtain ⟨id, -, ⟨-, rfl⟩ | ⟨w, -, rfl⟩⟩ := rxPollEom_eq_next.1 h <;> exact {}
  case rxPollEot =>
    obtain ⟨id, blocking, eomw, -, -, -, ⟨-, rfl⟩ | ⟨w, -, hc⟩⟩ := rxPollEot_eq_next.1 h
    · exact {}
    · exact .classify hc
  case rxCount =>
    obtain ⟨id, -, ⟨-, rfl⟩ | ⟨w, -, rfl⟩⟩ := rxReadCount_eq_next.1 h <;> exact {}
  case rxClear =>
    obtain ⟨id, b, -, -, rfl⟩ := rxClear_eq_next.1 h
    exact {}
  case rxHandler =>
    obtain ⟨id, count, -, -, ⟨-, rfl⟩ | ⟨rc, -, rfl⟩⟩ := rxHandler_eq_next.1 h <;> exact {}
  case txCopy =>
    obtain ⟨id, len, k, data, b, -, -, -, -, -, rfl⟩ := txCopy_eq_next.1 h
    exact {}
  case txEom =>
    obtain ⟨id, -, hc⟩ := txEom_eq_next.1 h
    exact .complete hc
  case mbRead =>
    obtain ⟨-, rfl⟩ | ⟨v, st, -, ⟨-, hc⟩ | ⟨-, -, hc⟩ | ⟨-, -, rfl⟩⟩ := mbReadPhase_eq_next.1 h
    · exact {}
    · exact .complete hc
    · exact .complete hc
    · exact {}
  case mbAck =>
    obtain ⟨v, -, ⟨-, rfl⟩ | ⟨st, -, ⟨-, -, hc⟩ | ⟨-, hc⟩⟩⟩ := mbAckPhase_eq_next.1 h
    · exact {}
    · exact .complete hc
    · exact .complete hc
  case lkPoll =>
    obtain ⟨-, rfl⟩ | ⟨v, rc, st, -, ⟨-, -, hc⟩ | ⟨-, rfl⟩⟩ := lkPoll_eq_next.1 h
    · exact {}
    · exact .complete hc
    · exact {}
  case fcEn0 =>
    obtain rfl := fcEn0_eq_next.1 h
    exact {}
  case fcEn1 => exact .complete (fcEn1_eq_next.1 h)

theorem acceptRequest_cfg {r : Request} {s t : State} (hi : s.phase = .idle)
    (h : acceptRequest r s = .next t) : t.cfg = s.cfg := by
  obtain ⟨i, -, -, rfl⟩ | ⟨q, kind, rfl⟩ := acceptRequest_cases hi h <;> rfl

end Sys2Proof.Machine

open Sys2Proof Sys2Proof.Machine

/-- Settles O37: no phase writes an operand register. -/
theorem operandsHeldWhileBusy : Obligations.OperandsHeldWhileBusy := by
  intro s t hb hn h
  have kept : KeepsCommand { s with resetIn := s.resetIn.tail } t :=
    stepPhase_keepsCommand (step_of_busy hb hn ▸ h)
  exact ⟨kept.cmdOp, kept.cmdId, kept.cmdBlocking, kept.cmdHandler, kept.cmdLen, kept.cmdData⟩

/-- Settles O38: none of the three things that a step can be writes the configuration. -/
theorem configurationIsConstant : Obligations.ConfigurationIsConstant := by
  intro s t h
  obtain ⟨rest, -, rfl⟩ | ⟨hi, r, rest, -, ha⟩ | ⟨-, hp⟩ := step_cases h
  · rfl
  · exact (acceptRequest_cfg (by exact hi) ha :)
  · exact (stepPhase_keepsCommand hp).cfg

end

section
/-! The reset values (10_state.md R48) and the invariant just after reset. -/

namespace Sys2Proof.Machine

open Sys2Proof

theorem lifeOf_resetWith (c : Config) (id : U16) : (State.resetWith c).lifeOf id = .unarmed := by
  simp [State.lifeOf, State.resetWith, List.getD, List.getElem?_replicate]
  split <;> rfl

theorem illustrative_wf : Config.illustrative.wf = true := by decide

/-- The two bounds on CPORT_MAX of 00_scope.md R9. -/
theorem cportMax_of_wf {c : Config} (h : c.wf = true) : 1 ≤ c.cportMax ∧ c.cportMax ≤ 64 := by
  simp only [Config.wf, Bool.and_eq_true, decide_eq_true_eq] at h
  simp only [h, true_and]

theorem idInRange_zero_of_wf {c : Config} (h : c.wf = true) : c.idInRange 0#16 = true := by
  have hmax := (cportMax_of_wf h).1
  simp only [Config.idInRange, BitVec.toNat_ofNat, Nat.zero_mod, decide_eq_true_eq]
  omega

/-- What the invariant says of every state, and what it says of a running command. -/
theorem inv_iff {s : State} :
    s.inv = true ↔
      s.cfg.wf = true ∧ s.life.length = s.cfg.cportMax ∧ s.rspKind.toNat ≤ 6 ∧
        s.cfg.idInRange s.rspFailId = true ∧
        (s.phase ≠ .idle → s.done = false ∧ s.operandsHeld = true ∧ s.opUsesPhase = true ∧
          s.phaseOk = true) := by
  by_cases hi : s.phase = .idle <;>
    simp [State.inv, State.busy, hi, and_assoc]

theorem inv_of_idle {s : State} (hi : s.phase = .idle) (hwf : s.cfg.wf = true)
    (hlife : s.life.length = s.cfg.cportMax) (hkind : s.rspKind.toNat ≤ 6)
    (hfail : s.cfg.idInRange s.rspFailId = true) : s.inv = true :=
  inv_iff.2 ⟨hwf, hlife, hkind, hfail, fun hb => absurd hi hb⟩

theorem resetWith_inv {c : Config} (h : c.wf = true) : (State.resetWith c).inv = true :=
  inv_of_idle rfl h List.length_replicate (Nat.zero_le 6) (idInRange_zero_of_wf h)

end Sys2Proof.Machine

open Sys2Proof Sys2Proof.Machine

/-- Settles O41: each value is a field of `State.resetWith`. -/
theorem resetValues : Obligations.ResetValues := by
  refine ⟨⟨Config.illustrative, rfl⟩, ?_⟩
  rintro c s rfl
  have life := lifeOf_resetWith c
  exact ⟨rfl, rfl, rfl, rfl, rfl, rfl, rfl, rfl, rfl, rfl, rfl, rfl, rfl, rfl, rfl, rfl, rfl, rfl, rfl, rfl,
    rfl, rfl, rfl, life, rfl, rfl, fun _ => rfl⟩

/-- Settles O44: an IDLE engine owes the invariant its configuration, lifecycles and response only. -/
theorem resetMeetsInvariant : Obligations.ResetMeetsInvariant :=
  ⟨resetWith_inv illustrative_wf, fun _ => resetWith_inv⟩

end

section
/-! The invariant over a step (10_state.md R36 to R42): a running command ends with a response that the invariant
allows, or goes on in a phase of its own with what that phase rests on. -/

namespace Sys2Proof.Machine

open Sys2Proof

/-! ### What the parts of the invariant say -/

theorem operandsHeld_iff {s : State} :
    s.operandsHeld = true ↔ s.cmdId.isSome = true ∧ s.cmdBlocking.isSome = true ∧
      s.cmdHandler.isSome = true ∧ s.cmdLen.isSome = true ∧ s.cmdData.isSome = true ∧
      s.k.isSome = true ∧ s.lastAttrRc.isSome = true ∧ s.lastAttrSt.isSome = true := by
  simp [State.operandsHeld, and_assoc]

theorem opUsesPhase_iff {s : State} :
    s.opUsesPhase = true ↔ ∃ op, s.cmdOp = some op ∧ op ∈ s.phase.usedBy := by
  unfold State.opUsesPhase
  cases s.cmdOp <;> simp

theorem cmdIdInRange_iff {s : State} :
    s.cmdIdInRange = true ↔ ∃ id, s.cmdId = some id ∧ s.cfg.idInRange id = true := by
  unfold State.cmdIdInRange
  cases s.cmdId <;> simp

theorem resetIdOk_iff {s : State} :
    s.resetIdOk = true ↔ ∃ r id k, s.rsId = some r ∧ s.cmdId = some id ∧ s.k = some k ∧
      s.cfg.idInRange r = true ∧ (s.cmdOp = some 1#4 → r = id) ∧
      (s.cmdOp ≠ some 1#4 → r.toNat = k.toNat) := by
  unfold State.resetIdOk
  cases s.rsId <;> cases s.cmdId <;> cases s.k <;> simp
  split <;> simp_all

theorem copyOk_iff {s : State} :
    s.copyOk = true ↔ ∃ k len data, s.k = some k ∧ s.cmdLen = some len ∧ s.cmdData = some data ∧
      k.toNat < len.toNat ∧ len.toNat ≤ s.cfg.txBufSize ∧ len.toNat = data.length := by
  unfold State.copyOk
  cases s.k <;> cases s.cmdLen <;> cases s.cmdData <;> simp [and_assoc]

theorem returnCodeOk_iff {s : State} :
    s.returnCodeOk = true ↔
      (s.cmdOp = some 4#4 → s.cmdHandler = some true → s.rxRc.isSome = true) := by
  simp only [State.returnCodeOk, Bool.or_eq_true, bne_iff_ne, or_assoc]
  tauto

theorem mailboxOk_iff {s : State} :
    s.mailboxOk = true ↔ ∃ v, s.mbValue = some v ∧ (mailboxId v).toNat < s.cfg.cportMax := by
  unfold State.mailboxOk
  cases s.mbValue <;> simp

/-- The kinds are coded 0 to 6 (30_encoding.md R120). -/
theorem kindCode_le (kind : Kind) : kind.code.toNat ≤ 6 := by
  cases kind <;> decide

/-! ### The two ways a step of a running command can end -/

/-- From `s` the transaction of PHASE leads to `t`: the command has ended with a response that the invariant
allows, or it is in a phase of the same commands with the response still untouched. -/
inductive EndsOrGoesOn (s t : State) : Prop where
  | ended (idle : t.phase = .idle) (kind : t.rspKind.toNat ≤ 6)
      (failId : t.cfg.idInRange t.rspFailId = true)
  | goesOn (uses : s.phase.usedBy ⊆ t.phase.usedBy) (rests : t.phaseOk = true) (done : t.done = s.done)
      (kind : t.rspKind = s.rspKind) (failId : t.rspFailId = s.rspFailId)

theorem EndsOrGoesOn.complete {kind : Kind} {value : U32} {failId : U16} {s u t : State}
    (hc : Machine.complete kind value failId u = .next t) (hf : u.cfg.idInRange failId = true) :
    EndsOrGoesOn s t := by
  obtain ⟨rc, st, -, -, rfl⟩ := complete_eq_next.1 hc
  exact .ended rfl (kindCode_le kind) hf

/-- A wait: the engine stays in its phase (93_implementation_defined.md I24). -/
theorem EndsOrGoesOn.waits {s : State} (h : s.phaseOk = true) : EndsOrGoesOn s s :=
  .goesOn (List.Subset.refl _) h rfl rfl rfl

/-- The step from the phase `p` to one that the same commands use, with the response left as it is. -/
theorem EndsOrGoesOn.moves {s t : State} {p : Phase} (hp : s.phase = p) (uses : p.usedBy ⊆ t.phase.usedBy)
    (rests : t.phaseOk = true) (done : t.done = s.done := by rfl) (kind : t.rspKind = s.rspKind := by rfl)
    (failId : t.rspFailId = s.rspFailId := by rfl) : EndsOrGoesOn s t :=
  .goesOn (hp ▸ uses) rests done kind failId

/-- In RESET_ALL and PREPARE_HANDOFF RS_ID follows K, and both stay below CPORT_MAX (41_reset_engine.md R181). -/
theorem EndsOrGoesOn.resetAdvance {s u t : State} (h : Machine.resetAdvance u = .next t)
    (hwf : u.cfg.wf = true) (hop : u.cmdOp ≠ some 1#4) (hid : u.cmdId.isSome = true)
    (hs : s.phase = .rsRxDeassert) (hdone : u.done = s.done := by rfl)
    (hkind : u.rspKind = s.rspKind := by rfl) (hfail : u.rspFailId = s.rspFailId := by rfl) :
    EndsOrGoesOn s t := by
  obtain ⟨k, -, ⟨hlt, rfl⟩ | ⟨-, hc⟩⟩ := resetAdvance_eq_next.1 h
  · have small : (k + 1#32).toNat < 2 ^ 16 := by have := (cportMax_of_wf hwf).2; omega
    have same : ((k + 1#32).setWidth 16).toNat = (k + 1#32).toNat := by
      rw [BitVec.toNat_setWidth, Nat.mod_eq_of_lt small]
    obtain ⟨id, hid⟩ := Option.isSome_iff_exists.1 hid
    refine .moves hs (List.Subset.refl _) ?_ hdone hkind hfail
    refine resetIdOk_iff.2 ⟨_, id, _, rfl, hid, rfl, ?_, fun h1 => absurd h1 hop, fun _ => same⟩
    simpa [Config.idInRange, same] using hlt
  · exact .complete hc (idInRange_zero_of_wf hwf)

theorem EndsOrGoesOn.classify {id : U16} {eomw eotw : U32} {blocking : Bool} {s u t : State}
    (h : Machine.classify id eomw eotw blocking u = .next t) (hwf : u.cfg.wf = true)
    (hid : u.cmdIdInRange = true) (hs : s.phase = .rxPollEot) (hdone : u.done = s.done := by rfl)
    (hkind : u.rspKind = s.rspKind := by rfl) (hfail : u.rspFailId = s.rspFailId := by rfl) :
    EndsOrGoesOn s t := by
  obtain ⟨-, hc⟩ | ⟨-, ⟨-, hc⟩ | ⟨-, ⟨-, rfl⟩ | ⟨-, ⟨-, rfl⟩ | ⟨-, hc⟩⟩⟩⟩ := classify_eq_next.1 h
  · exact .complete hc (idInRange_zero_of_wf hwf)
  · exact .complete hc (idInRange_zero_of_wf hwf)
  · exact .moves hs (List.Subset.refl _) hid hdone hkind hfail
  · exact .moves hs (List.Subset.refl _) hid hdone hkind hfail
  · exact .complete hc (idInRange_zero_of_wf hwf)

/-! ### The transaction of PHASE -/

/-- Each phase leaves the next one what that rests on (10_state.md R36 to R40). -/
theorem stepPhase_endsOrGoesOn {s t : State} (hwf : s.cfg.wf = true) (hheld : s.operandsHeld = true)
    (hok : s.phaseOk = true) (h : stepPhase s = .next t) : EndsOrGoesOn s t := by
  have zero := idInRange_zero_of_wf hwf
  have waits := EndsOrGoesOn.waits hok
  unfold stepPhase at h
  cases hp : s.phase <;> simp only [hp] at h <;> simp only [State.phaseOk, hp, Bool.and_eq_true] at hok
  case idle => cases h
  case rsWaitTxq =>
    obtain ⟨id, -, ⟨-, rfl⟩ | ⟨w, -, rfl⟩⟩ := rsWaitTxq_eq_next.1 h
    · exact waits
    · split
      · exact .moves hp (List.Subset.refl _) hok
      · exact .moves rfl (List.Subset.refl _) (by simp only [State.phaseOk, State.asked_phase, hp]; exact hok)
  case rsTxAssert =>
    obtain ⟨id, -, rfl⟩ := rsTxAssert_eq_next.1 h
    exact .moves hp (List.Subset.refl _) hok
  case rsAttr j =>
    obtain ⟨id, hid, ⟨-, rfl⟩ | ⟨rc, st, -, ⟨-, rfl⟩ | ⟨-, hc⟩⟩⟩ := rsAttr_eq_next.1 h
    · exact waits
    · split <;> exact .moves hp (List.Subset.refl _) hok
    · obtain ⟨r, -, -, hr, -, -, hrange, -⟩ := resetIdOk_iff.1 hok
      obtain rfl : r = id := Option.some.inj (hr.symm.trans hid)
      exact .complete hc hrange
  case rsRxAssert =>
    obtain ⟨id, -, rfl⟩ := rsRxAssert_eq_next.1 h
    exact .moves hp (List.Subset.refl _) hok
  case rsTxDeassert =>
    obtain ⟨id, -, rfl⟩ := rsTxDeassert_eq_next.1 h
    exact .moves hp (List.Subset.refl _) hok
  case rsRxDeassert =>
    obtain ⟨id, op, -, hop, ⟨-, hc⟩ | ⟨hall, ha⟩⟩ := rsRxDeassert_eq_next.1 h
    · exact .complete hc zero
    · refine .resetAdvance ha hwf ?_ (operandsHeld_iff.1 hheld).1 hp
      obtain rfl | rfl := hall <;> simp [hop]
  case armAddr =>
    obtain ⟨id, -, rfl⟩ := armAddr_eq_next.1 h
    exact .moves hp (List.Subset.refl _) (Bool.and_eq_true_iff.2 hok)
  case armPause =>
    obtain ⟨id, op, -, -, value, -, hc⟩ := armPause_eq_next.1 h
    exact .complete hc zero
  case rxPollEom =>
    obtain ⟨id, -, ⟨-, rfl⟩ | ⟨w, -, rfl⟩⟩ := rxPollEom_eq_next.1 h
    · exact waits
    · exact .moves hp (List.Subset.refl _) (Bool.and_eq_true_iff.2 ⟨hok, rfl⟩)
  case rxPollEot =>
    obtain ⟨id, blocking, eomw, -, -, -, ⟨-, rfl⟩ | ⟨w, -, hc⟩⟩ := rxPollEot_eq_next.1 h
    · exact waits
    · exact .classify hc hwf hok.1 hp
  case rxCount =>
    obtain ⟨id, -, ⟨-, rfl⟩ | ⟨w, -, rfl⟩⟩ := rxReadCount_eq_next.1 h
    · exact waits
    · exact .moves hp (List.Subset.refl _) (Bool.and_eq_true_iff.2 ⟨hok, rfl⟩)
  case rxClear =>
    obtain ⟨id, b, -, hb, rfl⟩ := rxClear_eq_next.1 h
    cases b with
    | true => exact .moves hp (List.Subset.refl _) (Bool.and_eq_true_iff.2 hok)
    | false =>
      refine .moves hp (by simp [Phase.usedBy])
        (Bool.and_eq_true_iff.2 ⟨hok.1, returnCodeOk_iff.2 fun _ ht => ?_⟩)
      simp [hb] at ht
  case rxHandler =>
    obtain ⟨id, count, -, -, ⟨-, rfl⟩ | ⟨rc, -, rfl⟩⟩ := rxHandler_eq_next.1 h
    · exact waits
    · exact .moves hp (by simp [Phase.usedBy])
        (Bool.and_eq_true_iff.2 ⟨hok.1, returnCodeOk_iff.2 fun _ _ => rfl⟩)
  case txCopy =>
    obtain ⟨id, len, k, data, b, -, hlen, -, hdata, -, rfl⟩ := txCopy_eq_next.1 h
    obtain ⟨-, len', data', -, hlen', hdata', -, hbuf, hlength⟩ := copyOk_iff.1 hok.2
    obtain rfl : len' = len := Option.some.inj (hlen'.symm.trans hlen)
    by_cases hlast : (k + 1#32).toNat < len'.toNat
    · rw [if_pos hlast]
      exact .moves hp (List.Subset.refl _) (Bool.and_eq_true_iff.2
        ⟨hok.1, copyOk_iff.2 ⟨_, _, _, rfl, hlen, hdata', hlast, hbuf, hlength⟩⟩)
    · rw [if_neg hlast]
      exact .moves hp (List.Subset.refl _) hok.1
  case txEom =>
    obtain ⟨id, -, hc⟩ := txEom_eq_next.1 h
    exact .complete hc zero
  case mbRead =>
    obtain ⟨-, rfl⟩ | ⟨v, st, -, ⟨-, hc⟩ | ⟨-, -, hc⟩ | ⟨-, hv, rfl⟩⟩ := mbReadPhase_eq_next.1 h
    · exact waits
    · exact .complete hc zero
    · exact .complete hc zero
    · have hmail : State.mailboxOk { s.asked .mbxRead with mbValue := some v, phase := .mbAck } = true :=
        mailboxOk_iff.2 ⟨v, rfl, hv⟩
      exact .moves hp (List.Subset.refl _) hmail
  case mbAck =>
    obtain ⟨v, -, ⟨-, rfl⟩ | ⟨st, -, ⟨-, -, hc⟩ | ⟨-, hc⟩⟩⟩ := mbAckPhase_eq_next.1 h
    · exact waits
    · exact .complete hc zero
    · exact .complete hc zero
  case lkPoll =>
    obtain ⟨-, rfl⟩ | ⟨v, rc, st, -, ⟨-, -, hc⟩ | ⟨-, rfl⟩⟩ := lkPoll_eq_next.1 h
    · exact waits
    · exact .complete hc zero
    · exact .moves rfl (List.Subset.refl _) (by simp only [State.phaseOk, State.attrAsked_phase, hp])
  case fcEn0 =>
    obtain rfl := fcEn0_eq_next.1 h
    exact .moves hp (List.Subset.refl _) rfl
  case fcEn1 => exact .complete (fcEn1_eq_next.1 h) zero

theorem stepPhase_inv {s t : State} (hi : s.inv = true) (h : stepPhase s = .next t) : t.inv = true := by
  have hb : s.phase ≠ .idle := fun hp => by simp [stepPhase, hp] at h
  obtain ⟨hwf, hlife, hkind, hfail, hrun⟩ := inv_iff.1 hi
  obtain ⟨hdone, hheld, huses, hok⟩ := hrun hb
  have kept := stepPhase_keepsCommand h
  have hwf' : t.cfg.wf = true := kept.cfg ▸ hwf
  have hlife' : t.life.length = t.cfg.cportMax := by rw [kept.lifeLength, kept.cfg, hlife]
  cases stepPhase_endsOrGoesOn hwf hheld hok h with
  | ended idle kind failId => exact inv_of_idle idle hwf' hlife' kind failId
  | goesOn uses rests done kind failId =>
    refine inv_iff.2 ⟨hwf', hlife', kind ▸ hkind, by rw [failId, kept.cfg, hfail],
      fun _ => ⟨done.trans hdone, ?_, ?_, rests⟩⟩
    · obtain ⟨hid, hblocking, hhandler, hlen, hdata, hk, hrc, hst⟩ := operandsHeld_iff.1 hheld
      exact operandsHeld_iff.2 ⟨kept.cmdId ▸ hid, kept.cmdBlocking ▸ hblocking, kept.cmdHandler ▸ hhandler,
        kept.cmdLen ▸ hlen, kept.cmdData ▸ hdata, kept.k hk, kept.lastAttrRc hrc, kept.lastAttrSt hst⟩
    · obtain ⟨op, hop, hmem⟩ := opUsesPhase_iff.1 huses
      exact opUsesPhase_iff.2 ⟨op, kept.cmdOp.trans hop, uses hmem⟩

/-! ### The accept step -/

/-- A command starts in a phase of its own (40_command_interface.md R145, 10_state.md R36). -/
theorem opcode_mem_usedBy_startPhase (i : Instr) : i.opcode ∈ (startPhase i).usedBy := by
  cases i with
  | send id len data => by_cases hlen : 0 < len.toNat <;> simp [startPhase, hlen, Instr.opcode, Phase.usedBy]
  | _ => simp [startPhase, Instr.opcode, Phase.usedBy]

theorem started_cmdOp (s : State) (i : Instr) : (s.started i).cmdOp = some i.opcode :=
  congrArg some (opField_encodeWord ..)

theorem started_cmdId (s : State) (i : Instr) : (s.started i).cmdId = some i.id :=
  congrArg some (idField_encodeWord ..)

theorem started_cmdIdInRange {s : State} {i : Instr} (ht : i.takesId = true)
    (hc : passesChecks s.cfg i = true) : (s.started i).cmdIdInRange = true :=
  cmdIdInRange_iff.2 ⟨i.id, started_cmdId s i, by
    simp only [passesChecks, ht, Bool.and_eq_true, Bool.not_true, Bool.false_or] at hc
    exact hc.1⟩

theorem started_phaseOk {s : State} {i : Instr} (hwf : s.cfg.wf = true) (hw : i.wellFormed = true)
    (hc : passesChecks s.cfg i = true) : (s.started i).phaseOk = true := by
  have hop := started_cmdOp s i
  have hid := started_cmdId s i
  have hrange (ht : i.takesId = true) := started_cmdIdInRange ht hc
  cases i with
  | resetOne id =>
    obtain ⟨id', hid', hr⟩ := cmdIdInRange_iff.1 (hrange rfl)
    obtain rfl : id' = id := Option.some.inj (hid'.symm.trans hid)
    exact resetIdOk_iff.2 ⟨_, _, _, rfl, hid, rfl, hr, fun _ => rfl, fun hne => absurd hop hne⟩
  | resetAll | prepareHandoff =>
    exact resetIdOk_iff.2 ⟨_, _, _, rfl, hid, rfl, idInRange_zero_of_wf hwf,
      fun h1 => by simp [hop, Instr.opcode] at h1, fun _ => rfl⟩
  | initCport id =>
    exact Bool.and_eq_true_iff.2 ⟨hrange rfl,
      returnCodeOk_iff.2 fun h4 => by simp [hop, Instr.opcode] at h4⟩
  | receive b h id => exact hrange rfl
  | send id len data =>
    have hlen : (s.started (.send id len data)).cmdLen = some len := by
      simp [State.started, encode, opField_encodeWord, Instr.opcode, Instr.len]
    have hdata : (s.started (.send id len data)).cmdData = some data := by
      simp [State.started, encode, opField_encodeWord, Instr.opcode, Instr.data]
    have hlength : len.toNat = data.length := by simpa [Instr.wellFormed] using hw
    have hbuf : len.toNat ≤ s.cfg.txBufSize := by exact of_decide_eq_true (Bool.and_eq_true_iff.1 hc).2
    by_cases hpos : 0 < len.toNat
    · have hp : (s.started (.send id len data)).phase = .txCopy := if_pos hpos
      simp only [State.phaseOk, hp, Bool.and_eq_true]
      exact ⟨hrange rfl, copyOk_iff.2 ⟨_, _, _, rfl, hlen, hdata, hpos, hbuf, hlength⟩⟩
    · have hp : (s.started (.send id len data)).phase = .txEom := if_neg hpos
      simp only [State.phaseOk, hp]
      exact hrange rfl
  | recvCport | waitLinkUp | prepareReadiness => rfl

theorem acceptRequest_inv {r : Request} {s t : State} (hs : s.inv = true) (hi : s.phase = .idle)
    (h : acceptRequest r s = .next t) : t.inv = true := by
  obtain ⟨hwf, hlife, hkind, hfail, -⟩ := inv_iff.1 hs
  obtain ⟨i, hw, hc, rfl⟩ | ⟨q, kind, rfl⟩ := acceptRequest_cases hi h
  · have huses : (s.started i).opUsesPhase = true :=
      opUsesPhase_iff.2 ⟨_, started_cmdOp s i, opcode_mem_usedBy_startPhase i⟩
    exact inv_iff.2 ⟨hwf, hlife, hkind, hfail, fun _ => ⟨rfl, rfl, huses, started_phaseOk hwf hw hc⟩⟩
  · exact inv_of_idle rfl hwf hlife (kindCode_le kind) (idInRange_zero_of_wf hwf)

/-! ### The reset event -/

theorem engineReset_inv {s : State} (hwf : s.cfg.wf = true) : s.engineReset.inv = true :=
  inv_of_idle rfl hwf List.length_replicate (Nat.zero_le 6) (idInRange_zero_of_wf hwf)

end Sys2Proof.Machine

open Sys2Proof Sys2Proof.Machine

/-- Settles O45: a reset event, an accept step and the transaction of PHASE each keep the invariant, which does
not look at the engine's inputs. -/
theorem stepKeepsInvariant : Obligations.StepKeepsInvariant := by
  intro s t hi h
  obtain ⟨rest, -, rfl⟩ | ⟨hp, r, rest, -, ha⟩ | ⟨-, hstep⟩ := step_cases h
  · exact engineReset_inv (inv_iff.1 hi).1
  · exact acceptRequest_inv (s := { s with requests := rest, resetIn := s.resetIn.tail }) hi hp ha
  · exact stepPhase_inv (s := { s with resetIn := s.resetIn.tail }) hi hstep

end

section
/-! Under the invariant no step is a model fault (10_state.md R40, 40_command_interface.md R146): every register a
phase reads holds a value, and no phase meets a command for which its rule names no successor. -/

namespace Sys2Proof.Machine

open Sys2Proof

/-- The outcome is no model fault and not the refusal of a foreign phase. -/
def NeverFaults (x : Res State) : Prop := (∀ f, x ≠ .fault f) ∧ x ≠ .refused .foreignPhase

/-! ### The shared operations -/

theorem neverFaults_next (s : State) : NeverFaults (.next s) := ⟨nofun, nofun⟩

theorem neverFaults_refused {r : Refusal} (h : r ≠ .foreignPhase) : NeverFaults (.refused r) :=
  ⟨nofun, fun hr => h (Host.Outcome.refused.inj hr)⟩

theorem neverFaults_ite {c : Prop} [Decidable c] {x y : Res State} (hx : NeverFaults x)
    (hy : NeverFaults y) : NeverFaults (if c then x else y) := by
  split <;> assumption

theorem neverFaults_read {α : Type} {n : RegName} {o : Option α} {f : α → Res State}
    (ho : o.isSome = true) (hf : ∀ v, o = some v → NeverFaults (f v)) :
    NeverFaults (andThen (readReg n o) f) := by
  obtain ⟨v, rfl⟩ := Option.isSome_iff_exists.1 ho
  exact hf v rfl

theorem neverFaults_complete {kind : Kind} {value : U32} {failId : U16} {s : State}
    (hrc : s.lastAttrRc.isSome = true) (hst : s.lastAttrSt.isSome = true) :
    NeverFaults (complete kind value failId s) :=
  neverFaults_read hrc fun _ _ => neverFaults_read hst fun _ _ => neverFaults_next _

/-- A transaction faults only where the rule that uses its answer does. -/
theorem neverFaults_ask {q : Txn} {s : State} {use : Answer → Res State} (h : ∀ a, NeverFaults (use a)) :
    NeverFaults (ask q s use) := by
  by_cases ha : s.answerTo q = .never
  · rw [ask_of_never ha]
    exact neverFaults_next s
  · rw [ask_of_answered ha]
    exact h _

section

variable {s : State}

theorem neverFaults_memRead32 {a : U32} {use : U32 → State → Res State}
    (h : ∀ v, NeverFaults (use v (s.asked (.memRead32 a)))) : NeverFaults (memRead32 a s use) :=
  neverFaults_ask fun
    | .word v => h v
    | .nothing | .byte _ | .attrWritten _ _ | .attrValue _ _ _ | .mbxValue _ _ | .mbxStatus _
    | .handlerReturn _ | .never => neverFaults_refused nofun

theorem neverFaults_attrWrite {attr sel : U16} {value : U32} {peer : Bool} {use : U32 → State → Res State}
    (h : ∀ rc st, NeverFaults (use st (s.attrAsked (.attrWrite attr value sel peer) rc st))) :
    NeverFaults (attrWrite attr value sel peer s use) :=
  neverFaults_ask fun
    | .attrWritten rc st => h rc st
    | .nothing | .byte _ | .word _ | .attrValue _ _ _ | .mbxValue _ _ | .mbxStatus _
    | .handlerReturn _ | .never => neverFaults_refused nofun

theorem neverFaults_attrRead {attr sel : U16} {peer : Bool} {use : U32 → U32 → State → Res State}
    (h : ∀ v rc st, NeverFaults (use v st (s.attrAsked (.attrRead attr sel peer) rc st))) :
    NeverFaults (attrRead attr sel peer s use) :=
  neverFaults_ask fun
    | .attrValue v rc st => h v rc st
    | .nothing | .byte _ | .word _ | .attrWritten _ _ | .mbxValue _ _ | .mbxStatus _
    | .handlerReturn _ | .never => neverFaults_refused nofun

theorem neverFaults_mbxRead {use : U32 → U32 → State → Res State}
    (h : ∀ v st, NeverFaults (use v st (s.asked .mbxRead))) : NeverFaults (mbxRead s use) :=
  neverFaults_ask fun
    | .mbxValue v st => h v st
    | .nothing | .byte _ | .word _ | .attrWritten _ _ | .attrValue _ _ _ | .mbxStatus _
    | .handlerReturn _ | .never => neverFaults_refused nofun

theorem neverFaults_mbxAck {v : U16} {use : U32 → State → Res State}
    (h : ∀ st, NeverFaults (use st (s.asked (.mbxAck v)))) : NeverFaults (mbxAck v s use) :=
  neverFaults_ask fun
    | .mbxStatus st => h st
    | .nothing | .byte _ | .word _ | .attrWritten _ _ | .attrValue _ _ _ | .mbxValue _ _
    | .handlerReturn _ | .never => neverFaults_refused nofun

theorem neverFaults_handlerCall {id : U16} {buf len : U32} {use : U32 → State → Res State}
    (h : ∀ rc, NeverFaults (use rc (s.asked (.handlerCall id buf len)))) :
    NeverFaults (handlerCall id buf len s use) :=
  neverFaults_ask fun
    | .handlerReturn rc => h rc
    | .nothing | .byte _ | .word _ | .attrWritten _ _ | .attrValue _ _ _ | .mbxValue _ _
    | .mbxStatus _ | .never => neverFaults_refused nofun

/-! ### The phases: each reads registers that the invariant fills -/

theorem neverFaults_rsWaitTxq (hr : s.rsId.isSome = true) : NeverFaults (rsWaitTxq s) :=
  neverFaults_read hr fun _ _ => neverFaults_memRead32 fun _ => neverFaults_next _

theorem neverFaults_rsTxAssert (hr : s.rsId.isSome = true) : NeverFaults (rsTxAssert s) :=
  neverFaults_read hr fun _ _ => neverFaults_next _

theorem neverFaults_rsAttr {j : Fin 4} (hr : s.rsId.isSome = true) : NeverFaults (rsAttr j s) :=
  neverFaults_read hr fun _ _ => neverFaults_attrWrite fun _ _ =>
    neverFaults_ite (neverFaults_next _) (neverFaults_complete rfl rfl)

theorem neverFaults_rsRxAssert (hr : s.rsId.isSome = true) : NeverFaults (rsRxAssert s) :=
  neverFaults_read hr fun _ _ => neverFaults_next _

theorem neverFaults_rsTxDeassert (hr : s.rsId.isSome = true) : NeverFaults (rsTxDeassert s) :=
  neverFaults_read hr fun _ _ => neverFaults_next _

theorem neverFaults_armAddr (hid : s.cmdId.isSome = true) : NeverFaults (armAddr s) :=
  neverFaults_read hid fun _ _ => neverFaults_next _

theorem neverFaults_rxPollEom (hid : s.cmdId.isSome = true) : NeverFaults (rxPollEom s) :=
  neverFaults_read hid fun _ _ => neverFaults_memRead32 fun _ => neverFaults_next _

theorem neverFaults_rxReadCount (hid : s.cmdId.isSome = true) : NeverFaults (rxReadCount s) :=
  neverFaults_read hid fun _ _ => neverFaults_memRead32 fun _ => neverFaults_next _

theorem neverFaults_rxClear (hid : s.cmdId.isSome = true) (hh : s.cmdHandler.isSome = true) :
    NeverFaults (rxClear s) :=
  neverFaults_read hid fun _ _ => neverFaults_read hh fun _ _ => neverFaults_next _

theorem neverFaults_rxHandler (hid : s.cmdId.isSome = true) (hcount : s.rxCount.isSome = true) :
    NeverFaults (rxHandler s) :=
  neverFaults_read hid fun _ _ => neverFaults_read hcount fun _ _ =>
    neverFaults_handlerCall fun _ => neverFaults_next _

/-- K is below CMD_LEN, so CMD_DATA has a byte there (43_tx_engine.md R242). -/
theorem neverFaults_txCopy (hid : s.cmdId.isSome = true) (hcopy : s.copyOk = true) :
    NeverFaults (txCopy s) := by
  obtain ⟨k, len, data, hk, hlen, hdata, hlt, -, hlength⟩ := copyOk_iff.1 hcopy
  have hbyte : data[k.toNat]?.isSome = true :=
    Option.isSome_of_eq_some (List.getElem?_eq_getElem (hlength ▸ hlt))
  refine neverFaults_read hid fun id _ => ?_
  simp only [hlen, hk, hdata, readReg_some, andThen_next]
  exact neverFaults_read hbyte fun _ _ => neverFaults_next _

theorem neverFaults_fcEn0 : NeverFaults (fcEn0 s) := neverFaults_next _

theorem neverFaults_lkPoll : NeverFaults (lkPoll s) :=
  neverFaults_attrRead fun _ _ _ => neverFaults_ite (neverFaults_complete rfl rfl) (neverFaults_next _)

section

/-! The phases that may complete also read LAST_ATTR_RC and LAST_ATTR_ST (40_command_interface.md R150). -/

variable (hrc : s.lastAttrRc.isSome = true) (hst : s.lastAttrSt.isSome = true)
include hrc hst

theorem neverFaults_resetAdvance (hk : s.k.isSome = true) : NeverFaults (resetAdvance s) :=
  neverFaults_read hk fun _ _ => neverFaults_ite (neverFaults_next _) (neverFaults_complete hrc hst)

/-- The reset commands are those whose phase this is, and R177 has a successor for each. -/
theorem neverFaults_rsRxDeassert {op : BitVec 4} (hr : s.rsId.isSome = true) (hk : s.k.isSome = true)
    (hop : s.cmdOp = some op) (huses : op ∈ Phase.rsRxDeassert.usedBy) : NeverFaults (rsRxDeassert s) := by
  refine neverFaults_read hr fun id _ => ?_
  rw [hop, readReg_some, andThen_next]
  by_cases h1 : op = 1#4
  · rw [if_pos h1]
    exact neverFaults_complete hrc hst
  · have hall : op = 2#4 ∨ op = 9#4 := by simpa [Phase.usedBy, h1] using huses
    rw [if_neg h1, if_pos (by simpa using hall)]
    exact neverFaults_resetAdvance (by exact hrc) (by exact hst) (by exact hk)

/-- The arm sequence is INIT_CPORT's and RECEIVE's, and R201 has an end for both; a RECEIVE with a handler comes
here with the handler's return code (42_rx_engine.md R214). -/
theorem neverFaults_armPause {op : BitVec 4} (hid : s.cmdId.isSome = true)
    (hh : s.cmdHandler.isSome = true) (hcode : s.returnCodeOk = true) (hop : s.cmdOp = some op)
    (huses : op ∈ Phase.armPause.usedBy) : NeverFaults (armPause s) := by
  refine neverFaults_read hid fun id _ => ?_
  rw [hop, readReg_some, andThen_next]
  by_cases h3 : op = 3#4
  · rw [if_pos h3]
    exact neverFaults_complete hrc hst
  · obtain rfl : op = 4#4 := by simpa [Phase.usedBy, h3] using huses
    rw [if_neg h3, if_pos rfl]
    refine neverFaults_read hh fun h hh => ?_
    cases h with
    | true => exact neverFaults_read (returnCodeOk_iff.1 hcode hop hh) fun _ _ => neverFaults_complete hrc hst
    | false => exact neverFaults_complete hrc hst

theorem neverFaults_classify {id : U16} {eomw eotw : U32} {blocking : Bool} :
    NeverFaults (classify id eomw eotw blocking s) :=
  neverFaults_ite (neverFaults_complete hrc hst) <| neverFaults_ite (neverFaults_complete hrc hst) <|
    neverFaults_ite (neverFaults_next _) <| neverFaults_ite (neverFaults_next _) <|
    neverFaults_complete hrc hst

theorem neverFaults_rxPollEot (hid : s.cmdId.isSome = true) (hb : s.cmdBlocking.isSome = true)
    (heom : s.rxEomw.isSome = true) : NeverFaults (rxPollEot s) :=
  neverFaults_read hid fun _ _ => neverFaults_read hb fun _ _ => neverFaults_read heom fun _ _ =>
    neverFaults_memRead32 fun _ => neverFaults_classify (by exact hrc) (by exact hst)

theorem neverFaults_txEom (hid : s.cmdId.isSome = true) : NeverFaults (txEom s) :=
  neverFaults_read hid fun _ _ => neverFaults_complete hrc hst

theorem neverFaults_mbReadPhase : NeverFaults (mbReadPhase s) :=
  neverFaults_mbxRead fun _ _ => neverFaults_ite (neverFaults_complete hrc hst) <|
    neverFaults_ite (neverFaults_complete hrc hst) <|
    neverFaults_ite (neverFaults_complete hrc hst) (neverFaults_next _)

theorem neverFaults_mbAckPhase (hv : s.mbValue.isSome = true) : NeverFaults (mbAckPhase s) :=
  neverFaults_read hv fun _ _ => neverFaults_mbxAck fun _ =>
    neverFaults_ite (neverFaults_complete hrc hst) (neverFaults_complete hrc hst)

theorem neverFaults_fcEn1 : NeverFaults (fcEn1 s) := neverFaults_complete hrc hst

end

/-- What the phase rests on fills every register that its rule reads (10_state.md R40). -/
theorem neverFaults_stepPhase (hheld : s.operandsHeld = true) (huses : s.opUsesPhase = true)
    (hok : s.phaseOk = true) : NeverFaults (stepPhase s) := by
  obtain ⟨hid, hblocking, hhandler, -, -, hk, hrc, hst⟩ := operandsHeld_iff.1 hheld
  obtain ⟨op, hop, hmem⟩ := opUsesPhase_iff.1 huses
  have rsIdHeld (h : s.resetIdOk = true) : s.rsId.isSome = true := by
    obtain ⟨r, -, -, hr, -⟩ := resetIdOk_iff.1 h
    exact Option.isSome_of_eq_some hr
  unfold stepPhase
  cases hp : s.phase <;> simp only [State.phaseOk, hp, Bool.and_eq_true] at hok <;> rw [hp] at hmem
  case idle => exact neverFaults_refused nofun
  case rsWaitTxq => exact neverFaults_rsWaitTxq (rsIdHeld hok)
  case rsTxAssert => exact neverFaults_rsTxAssert (rsIdHeld hok)
  case rsAttr j => exact neverFaults_rsAttr (rsIdHeld hok)
  case rsRxAssert => exact neverFaults_rsRxAssert (rsIdHeld hok)
  case rsTxDeassert => exact neverFaults_rsTxDeassert (rsIdHeld hok)
  case rsRxDeassert => exact neverFaults_rsRxDeassert hrc hst (rsIdHeld hok) hk hop hmem
  case armAddr => exact neverFaults_armAddr hid
  case armPause => exact neverFaults_armPause hrc hst hid hhandler hok.2 hop hmem
  case rxPollEom => exact neverFaults_rxPollEom hid
  case rxPollEot => exact neverFaults_rxPollEot hrc hst hid hblocking hok.2
  case rxCount => exact neverFaults_rxReadCount hid
  case rxClear => exact neverFaults_rxClear hid hhandler
  case rxHandler => exact neverFaults_rxHandler hid hok.2
  case txCopy => exact neverFaults_txCopy hid hok.2
  case txEom => exact neverFaults_txEom hrc hst hid
  case mbRead => exact neverFaults_mbReadPhase hrc hst
  case mbAck =>
    obtain ⟨v, hv, -⟩ := mailboxOk_iff.1 hok
    exact neverFaults_mbAckPhase hrc hst (Option.isSome_of_eq_some hv)
  case lkPoll => exact neverFaults_lkPoll
  case fcEn0 => exact neverFaults_fcEn0
  case fcEn1 => exact neverFaults_fcEn1 hrc hst

end

/-! ### The accept step -/

theorem neverFaults_acceptRequest {r : Request} {s : State} (hi : s.phase = .idle) :
    NeverFaults (acceptRequest r s) := by
  unfold acceptRequest
  split
  case h_1 i _ =>
    cases hw : i.wellFormed with
    | true => exact exec_of_idle hi hw ▸ neverFaults_next _
    | false => exact exec_of_illFormed hi hw ▸ neverFaults_refused nofun
  case h_2 => exact neverFaults_ite (neverFaults_complete rfl rfl) (neverFaults_refused nofun)

end Sys2Proof.Machine

open Sys2Proof Sys2Proof.Machine

/-- Settles O46: a reset event and an accept step read no register that can be empty, and the invariant fills
those that the running command's phase reads. -/
theorem noModelFault : Obligations.NoModelFault := by
  intro s hs
  show NeverFaults (step s)
  by_cases hn : s.resetIn.head? = some true
  · obtain ⟨rest, hr⟩ := List.head?_eq_some_iff.1 hn
    exact step_of_reset hr ▸ neverFaults_next _
  by_cases hi : s.phase = .idle
  · cases hr : s.requests with
    | nil =>
      have quiet : step s = .refused .quiescent := by simp [step_of_noReset hn, commandStep, hi, hr]
      exact quiet ▸ neverFaults_refused nofun
    | cons r rest =>
      exact step_of_idle hi hn hr ▸ neverFaults_acceptRequest (by exact hi)
  · obtain ⟨-, -, -, -, hrun⟩ := inv_iff.1 hs
    obtain ⟨-, hheld, huses, hok⟩ := hrun hi
    rw [step_of_busy hi hn]
    exact neverFaults_stepPhase (by exact hheld) (by exact huses) (by exact hok)

end

section
/-! The ghost lifecycle and the event history change no behaviour (10_state.md R45, R47): from states that differ
in them only, each operation ends alike, with next states that differ in them only. -/

namespace Sys2Proof.Machine

open Sys2Proof

/-- The state without its ghosts: no lifecycle and no history. -/
def State.unghosted (s : State) : State := { s with life := [], history := [] }

/-- Two outcomes are the same but for the ghosts of the next state. -/
def AlikeOutcomes (x y : Res State) : Prop := mapNext State.unghosted x = mapNext State.unghosted y

/-- The operation's outcome does not depend on the ghosts, but for the ghosts of its next state. -/
def GhostBlind (f : State → Res State) : Prop := ∀ s, AlikeOutcomes (f s.unghosted) (f s)

/-- Any two states that agree without their ghosts will do. -/
theorem GhostBlind.alike {f : State → Res State} (hf : GhostBlind f) {u v : State}
    (h : u.unghosted = v.unghosted) : AlikeOutcomes (f u) (f v) := by
  have hu : AlikeOutcomes (f u.unghosted) (f u) := hf u
  rw [h] at hu
  exact hu.symm.trans (hf v)

/-! ### The shared operations -/

theorem alike_next {u v : State} (h : u.unghosted = v.unghosted) :
    AlikeOutcomes (.next u) (.next v) := congrArg Host.Outcome.next h

section

variable {s : State}

/-- A transaction takes the same answer with and without the ghosts, or waits for it in both. -/
theorem alike_ask {q : Txn} {f g : Answer → Res State} (hfg : ∀ a, AlikeOutcomes (f a) (g a)) :
    AlikeOutcomes (ask q s.unghosted f) (ask q s g) := by
  have same : s.unghosted.answerTo q = s.answerTo q := rfl
  by_cases hs : s.answerTo q = .never
  · rw [ask_of_never hs, ask_of_never (same.trans hs)]
    exact alike_next rfl
  · rw [ask_of_answered hs, ask_of_answered (same ▸ hs), same]
    exact hfg _

theorem alike_memRead32 {a : U32} {use : U32 → State → Res State}
    (huse : ∀ w, GhostBlind (use w)) :
    AlikeOutcomes (memRead32 a s.unghosted use) (memRead32 a s use) :=
  alike_ask fun
    | .word w => (huse w).alike rfl
    | .nothing | .byte _ | .attrWritten _ _ | .attrValue _ _ _ | .mbxValue _ _ | .mbxStatus _
    | .handlerReturn _ | .never => rfl

theorem alike_attrWrite {attr sel : U16} {value : U32} {peer : Bool} {use : U32 → State → Res State}
    (huse : ∀ st, GhostBlind (use st)) :
    AlikeOutcomes (attrWrite attr value sel peer s.unghosted use) (attrWrite attr value sel peer s use) :=
  alike_ask fun
    | .attrWritten _ st => (huse st).alike rfl
    | .nothing | .byte _ | .word _ | .attrValue _ _ _ | .mbxValue _ _ | .mbxStatus _
    | .handlerReturn _ | .never => rfl

theorem alike_attrRead {attr sel : U16} {peer : Bool} {use : U32 → U32 → State → Res State}
    (huse : ∀ w st, GhostBlind (use w st)) :
    AlikeOutcomes (attrRead attr sel peer s.unghosted use) (attrRead attr sel peer s use) :=
  alike_ask fun
    | .attrValue w _ st => (huse w st).alike rfl
    | .nothing | .byte _ | .word _ | .attrWritten _ _ | .mbxValue _ _ | .mbxStatus _
    | .handlerReturn _ | .never => rfl

theorem alike_mbxRead {use : U32 → U32 → State → Res State}
    (huse : ∀ w st, GhostBlind (use w st)) :
    AlikeOutcomes (mbxRead s.unghosted use) (mbxRead s use) :=
  alike_ask fun
    | .mbxValue w st => (huse w st).alike rfl
    | .nothing | .byte _ | .word _ | .attrWritten _ _ | .attrValue _ _ _ | .mbxStatus _
    | .handlerReturn _ | .never => rfl

theorem alike_mbxAck {w : U16} {use : U32 → State → Res State}
    (huse : ∀ st, GhostBlind (use st)) :
    AlikeOutcomes (mbxAck w s.unghosted use) (mbxAck w s use) :=
  alike_ask fun
    | .mbxStatus st => (huse st).alike rfl
    | .nothing | .byte _ | .word _ | .attrWritten _ _ | .attrValue _ _ _ | .mbxValue _ _
    | .handlerReturn _ | .never => rfl

theorem alike_handlerCall {id : U16} {buf len : U32} {use : U32 → State → Res State}
    (huse : ∀ rc, GhostBlind (use rc)) :
    AlikeOutcomes (handlerCall id buf len s.unghosted use) (handlerCall id buf len s use) :=
  alike_ask fun
    | .handlerReturn rc => (huse rc).alike rfl
    | .nothing | .byte _ | .word _ | .attrWritten _ _ | .attrValue _ _ _ | .mbxValue _ _
    | .mbxStatus _ | .never => rfl

end

theorem alike_andThen {α : Type} {x : Res α} {f g : α → Res State}
    (hfg : ∀ a, AlikeOutcomes (f a) (g a)) : AlikeOutcomes (andThen x f) (andThen x g) := by
  cases x with
  | next a => exact hfg a
  | fault | refused => rfl

theorem alike_ite {c : Prop} [Decidable c] {x y x' y' : Res State} (hx : AlikeOutcomes x x')
    (hy : AlikeOutcomes y y') : AlikeOutcomes (if c then x else y) (if c then x' else y') := by
  split <;> assumption

theorem ghostBlind_complete (kind : Kind) (value : U32) (failId : U16) :
    GhostBlind (complete kind value failId) :=
  fun _ => alike_andThen fun _ => alike_andThen fun _ => rfl

theorem alike_complete {kind : Kind} {value : U32} {failId : U16} {u v : State}
    (h : u.unghosted = v.unghosted) :
    AlikeOutcomes (complete kind value failId u) (complete kind value failId v) :=
  (ghostBlind_complete kind value failId).alike h

/-! ### The phases -/

theorem ghostBlind_resetAdvance : GhostBlind resetAdvance :=
  fun _ => alike_andThen fun _ => alike_ite (alike_next rfl) (alike_complete rfl)

theorem ghostBlind_classify (id : U16) (eomw eotw : U32) (blocking : Bool) :
    GhostBlind (classify id eomw eotw blocking) :=
  fun _ => alike_ite (alike_complete rfl) <| alike_ite (alike_complete rfl) <|
    alike_ite (alike_next rfl) <| alike_ite (alike_next rfl) (alike_complete rfl)

theorem ghostBlind_rsWaitTxq : GhostBlind rsWaitTxq :=
  fun _ => alike_andThen fun _ => alike_memRead32 fun _ _ => alike_next (by split <;> rfl)

theorem ghostBlind_rsTxAssert : GhostBlind rsTxAssert :=
  fun _ => alike_andThen fun _ => alike_next rfl

theorem ghostBlind_rsAttr (j : Fin 4) : GhostBlind (rsAttr j) :=
  fun _ => alike_andThen fun _ => alike_attrWrite fun _ _ =>
    alike_ite (alike_next rfl) (alike_complete rfl)

theorem ghostBlind_rsRxAssert : GhostBlind rsRxAssert :=
  fun _ => alike_andThen fun _ => alike_next rfl

theorem ghostBlind_rsTxDeassert : GhostBlind rsTxDeassert :=
  fun _ => alike_andThen fun _ => alike_next rfl

theorem ghostBlind_rsRxDeassert : GhostBlind rsRxDeassert :=
  fun _ => alike_andThen fun _ => alike_andThen fun _ =>
    alike_ite (alike_complete rfl) (alike_ite (ghostBlind_resetAdvance.alike rfl) rfl)

theorem ghostBlind_armAddr : GhostBlind armAddr :=
  fun _ => alike_andThen fun _ => alike_next rfl

theorem ghostBlind_armPause : GhostBlind armPause :=
  fun _ => alike_andThen fun _ => alike_andThen fun _ => alike_ite (alike_complete rfl) <|
    alike_ite (alike_andThen fun _ => alike_ite (alike_andThen fun _ => alike_complete rfl)
      (alike_complete rfl)) rfl

theorem ghostBlind_rxPollEom : GhostBlind rxPollEom :=
  fun _ => alike_andThen fun _ => alike_memRead32 fun _ _ => alike_next rfl

theorem ghostBlind_rxPollEot : GhostBlind rxPollEot :=
  fun _ => alike_andThen fun _ => alike_andThen fun _ => alike_andThen fun _ =>
    alike_memRead32 fun _ _ => (ghostBlind_classify _ _ _ _).alike rfl

theorem ghostBlind_rxReadCount : GhostBlind rxReadCount :=
  fun _ => alike_andThen fun _ => alike_memRead32 fun _ _ => alike_next rfl

theorem ghostBlind_rxClear : GhostBlind rxClear :=
  fun _ => alike_andThen fun _ => alike_andThen fun _ => alike_next rfl

theorem ghostBlind_rxHandler : GhostBlind rxHandler :=
  fun _ => alike_andThen fun _ => alike_andThen fun _ => alike_handlerCall fun _ _ => alike_next rfl

theorem ghostBlind_txCopy : GhostBlind txCopy :=
  fun _ => alike_andThen fun _ => alike_andThen fun _ => alike_andThen fun _ => alike_andThen fun _ =>
    alike_andThen fun _ => alike_next rfl

theorem ghostBlind_txEom : GhostBlind txEom :=
  fun _ => alike_andThen fun _ => alike_complete rfl

theorem ghostBlind_mbReadPhase : GhostBlind mbReadPhase :=
  fun _ => alike_mbxRead fun _ _ _ => alike_ite (alike_complete rfl) <|
    alike_ite (alike_complete rfl) <| alike_ite (alike_complete rfl) (alike_next rfl)

theorem ghostBlind_mbAckPhase : GhostBlind mbAckPhase :=
  fun _ => alike_andThen fun _ => alike_mbxAck fun _ _ =>
    alike_ite (alike_complete rfl) (alike_complete rfl)

theorem ghostBlind_lkPoll : GhostBlind lkPoll :=
  fun _ => alike_attrRead fun _ _ _ => alike_ite (alike_complete rfl) (alike_next rfl)

theorem ghostBlind_fcEn0 : GhostBlind fcEn0 := fun _ => alike_next rfl

theorem ghostBlind_fcEn1 : GhostBlind fcEn1 := fun _ => alike_complete rfl

/-- PHASE is no ghost, so both states perform the same transaction. -/
theorem ghostBlind_stepPhase : GhostBlind stepPhase := by
  intro s
  have samePhase : s.unghosted.phase = s.phase := rfl
  unfold stepPhase
  rw [samePhase]
  cases s.phase with
  | idle => rfl
  | rsWaitTxq => exact ghostBlind_rsWaitTxq s
  | rsTxAssert => exact ghostBlind_rsTxAssert s
  | rsAttr j => exact ghostBlind_rsAttr j s
  | rsRxAssert => exact ghostBlind_rsRxAssert s
  | rsTxDeassert => exact ghostBlind_rsTxDeassert s
  | rsRxDeassert => exact ghostBlind_rsRxDeassert s
  | armAddr => exact ghostBlind_armAddr s
  | armPause => exact ghostBlind_armPause s
  | rxPollEom => exact ghostBlind_rxPollEom s
  | rxPollEot => exact ghostBlind_rxPollEot s
  | rxCount => exact ghostBlind_rxReadCount s
  | rxClear => exact ghostBlind_rxClear s
  | rxHandler => exact ghostBlind_rxHandler s
  | txCopy => exact ghostBlind_txCopy s
  | txEom => exact ghostBlind_txEom s
  | mbRead => exact ghostBlind_mbReadPhase s
  | mbAck => exact ghostBlind_mbAckPhase s
  | lkPoll => exact ghostBlind_lkPoll s
  | fcEn0 => exact ghostBlind_fcEn0 s
  | fcEn1 => exact ghostBlind_fcEn1 s

/-! ### The step -/

theorem ghostBlind_exec (i : Instr) : GhostBlind (exec i) := by
  intro s
  by_cases hi : s.phase = .idle
  · have hi' : s.unghosted.phase = .idle := hi
    cases hw : i.wellFormed with
    | false => rw [exec_of_illFormed hi' hw, exec_of_illFormed hi hw]; rfl
    | true =>
      rw [exec_of_idle hi' hw, exec_of_idle hi hw]
      have sameChecks : passesChecks s.unghosted.cfg i = passesChecks s.cfg i := rfl
      rw [sameChecks]
      exact alike_next (by split <;> rfl)
  · rw [exec_of_busy i hi, exec_of_busy i (by exact hi)]
    exact ghostBlind_stepPhase s

theorem ghostBlind_acceptRequest (r : Request) : GhostBlind (acceptRequest r) := by
  intro s
  unfold acceptRequest
  split
  · exact ghostBlind_exec _ s
  · exact alike_ite (alike_complete rfl) rfl

theorem ghostBlind_commandStep : GhostBlind commandStep := by
  intro s
  by_cases hi : s.phase = .idle
  · have hi' : s.unghosted.phase = .idle := hi
    cases hr : s.requests with
    | nil =>
      have hr' : s.unghosted.requests = [] := hr
      simp only [commandStep, hi, hi', hr, hr']
      rfl
    | cons r rest =>
      rw [commandStep_of_idle hi hr, commandStep_of_idle hi' (show s.unghosted.requests = r :: rest from hr)]
      exact (ghostBlind_acceptRequest r).alike rfl
  · rw [commandStep_of_busy hi, commandStep_of_busy (s := s.unghosted) hi]
    exact ghostBlind_stepPhase s

theorem ghostBlind_step : GhostBlind step := by
  intro s
  by_cases hn : s.resetIn.head? = some true
  · obtain ⟨rest, hr⟩ := List.head?_eq_some_iff.1 hn
    rw [step_of_reset hr, step_of_reset (s := s.unghosted) hr]
    exact alike_next rfl
  · rw [step_of_noReset hn, step_of_noReset (s := s.unghosted) hn]
    exact ghostBlind_commandStep.alike rfl

end Sys2Proof.Machine

open Sys2Proof Sys2Proof.Machine

/-- Settles O40: the two states agree without their ghosts, so their steps do. -/
theorem ghostsChangeNothing : Obligations.GhostsChangeNothing := by
  intro s life history
  exact ghostBlind_step.alike (u := { s with life := life, history := history }) rfl

end

section
/-! The status-bit masks, bit by bit (20_memory.md R77): each is one bit of its word, at a position below 32. -/

namespace Sys2Proof

theorem getLsbD_one_shiftLeft {w : Nat} (i n : Nat) :
    (1#w <<< i).getLsbD n = (decide (n < w) && decide (n = i)) := by
  rw [BitVec.getLsbD_shiftLeft, BitVec.getLsbD_one, Bool.eq_iff_iff]
  simp only [Bool.and_eq_true, Bool.not_eq_true', decide_eq_true_eq, decide_eq_false_iff_not]
  omega

/-- Two one-bit words share a bit only at the same position. -/
theorem one_shiftLeft_and_one_shiftLeft {w i j : Nat} (h : i ≠ j) :
    (1#w <<< i) &&& (1#w <<< j) = 0#w := by
  apply BitVec.eq_of_getLsbD_eq
  intro n _
  simp only [BitVec.getLsbD_and, getLsbD_one_shiftLeft, BitVec.getLsbD_zero]
  by_cases hi : n = i
  · simp [hi, h]
  · simp [hi]

end Sys2Proof

namespace Sys2Proof.Machine

/-- Bit `n` of a status word after one of its bits, bit `i`, is written to it (20_memory.md R91). -/
theorem getLsbD_writeOneToClear_one_shiftLeft (old : U32) (i n : Nat) :
    (writeOneToClear old (1#32 <<< i)).getLsbD n = if n = i then false else old.getLsbD n := by
  rw [writeOneToClear, BitVec.getLsbD_and, BitVec.getLsbD_not, getLsbD_one_shiftLeft]
  by_cases hn : n < 32
  · by_cases hi : n = i <;> simp [hn, hi]
  · simp [hn, BitVec.getLsbD_of_ge old n (Nat.not_lt.1 hn)]

end Sys2Proof.Machine

open Sys2Proof Sys2Proof.Machine

/-- Settles O58: the bit positions `2m`, `2m + 1` and `m` that the masks take from the id differ wherever two
CPorts or two kinds do. -/
theorem masksAreSeparate : Obligations.MasksAreSeparate := by
  intro a b
  refine ⟨?_, fun h16 => ⟨?_, ?_⟩, fun h32 => ⟨?_, ?_⟩⟩ <;>
    exact one_shiftLeft_and_one_shiftLeft (by omega)

/-- Settles O59: the mask that is written is the one bit `2 * (id mod 16)`. -/
theorem clearTouchesOwnBitOnly : Obligations.ClearTouchesOwnBitOnly :=
  fun _ old n _ => getLsbD_writeOneToClear_one_shiftLeft old _ n

end

section
/-! The regions of the I/O window in a well-formed configuration (20_memory.md R78, 00_scope.md R9): an address
that lies in one of them lies in no other, and every address that the engine forms (R77) lies in its own. -/

namespace Sys2Proof

/-! ### What the check of a configuration says of its regions (00_scope.md R9) -/

section

variable {c : Config} (hwf : c.wf = true)

include hwf

theorem Config.basesAligned_of_wf : c.basesAligned = true := by
  simp only [Config.wf, Bool.and_eq_true] at hwf
  obtain ⟨⟨⟨⟨-, haligned⟩, -⟩, -⟩, -⟩ := hwf
  exact haligned

theorem Config.regions_disjoint_of_wf : pairwiseDisjoint c.regions = true := by
  simp only [Config.wf, Bool.and_eq_true] at hwf
  obtain ⟨⟨-, hdisjoint⟩, -⟩ := hwf
  exact hdisjoint

theorem Config.region_fits_of_wf {r : Region} (hr : r ∈ c.regions) : r.start + r.size ≤ 2 ^ 32 := by
  simp only [Config.wf, Bool.and_eq_true, List.all_eq_true] at hwf
  obtain ⟨-, hfit⟩ := hwf
  exact of_decide_eq_true (hfit r hr)

/-- The EOM trigger lies behind the data bytes and inside the CPort's own buffer. -/
theorem Config.txEomOffset_of_wf : c.txBufSize ≤ c.txEomOffset ∧ c.txEomOffset < c.txBufStride := by
  simp only [Config.wf, Bool.and_eq_true, decide_eq_true_eq] at hwf
  simp only [hwf, and_self]

/-- The regions of 32-bit accesses start at a multiple of 4. -/
theorem Config.start_aligned_of_wf {r : Region} (hr : r ∈ c.regions) (h8 : r.access ≠ .write8)
    (hno : r.access ≠ .noAccess) : r.start % 4 = 0 := by
  have haligned := Config.basesAligned_of_wf hwf
  simp only [Config.basesAligned, aligned4, Bool.and_eq_true, beq_iff_eq] at haligned
  simp only [Config.regions, List.mem_cons, List.not_mem_nil, or_false] at hr
  rcases hr with rfl | rfl | rfl | rfl | rfl | rfl | rfl | rfl | rfl | rfl | rfl | rfl <;> simp_all

end

/-! ### An address lies in at most one region -/

theorem Region.not_holds_of_disjoint {r q : Region} {a : Nat} (hd : q.disjoint r = true)
    (ha : r.holds a = true) : ¬ q.holds a = true := by
  simp only [Region.disjoint, Region.holds, Bool.or_eq_true, Bool.and_eq_true, decide_eq_true_eq] at *
  omega

theorem find?_holds_of_pairwiseDisjoint {rs : List Region} {r : Region} {a : Nat}
    (hd : pairwiseDisjoint rs = true) (hr : r ∈ rs) (ha : r.holds a = true) :
    rs.find? (fun q => q.holds a) = some r := by
  induction rs with
  | nil => cases hr
  | cons q rest ih =>
    simp only [pairwiseDisjoint, Bool.and_eq_true, List.all_eq_true] at hd
    obtain ⟨hq, hrest⟩ := hd
    obtain rfl | hr := List.mem_cons.1 hr
    · exact List.find?_cons_of_pos ha
    · have hskip : ¬ q.holds a = true := Region.not_holds_of_disjoint (hq r hr) ha
      exact (List.find?_cons_of_neg (p := fun q : Region => q.holds a) hskip).trans (ih hrest hr)

/-! ### An offset from the start of a region -/

section

variable {c : Config} {name : RegionName} {base : U32} {size : Nat} {access : Access} (hwf : c.wf = true)
  (hr : ⟨name, base.toNat, size, access⟩ ∈ c.regions)

include hwf hr

/-- No address computation wraps (20_memory.md R77). -/
theorem Config.toNat_base_add {off : Nat} (hoff : off < size) :
    (base + BitVec.ofNat 32 off).toNat = base.toNat + off := by
  have hfit : base.toNat + size ≤ 2 ^ 32 := Config.region_fits_of_wf hwf hr
  rw [BitVec.toNat_add, BitVec.toNat_ofNat]
  omega

theorem Config.regionAt_base_add {off : Nat} (hoff : off < size) :
    c.regionAt (base + BitVec.ofNat 32 off) = some ⟨name, base.toNat, size, access⟩ := by
  refine find?_holds_of_pairwiseDisjoint (Config.regions_disjoint_of_wf hwf) hr ?_
  simp [Region.holds, Config.toNat_base_add hwf hr hoff, hoff]

theorem Config.aligned4_base_add {n : Nat} (hn : 4 * n < size) (h8 : access ≠ .write8)
    (hno : access ≠ .noAccess) : aligned4 (base + BitVec.ofNat 32 (4 * n)) = true := by
  have hstart : base.toNat % 4 = 0 := Config.start_aligned_of_wf hwf hr h8 hno
  simp only [aligned4, Config.toNat_base_add hwf hr hn, beq_iff_eq]
  omega

end

end Sys2Proof

namespace Sys2Proof.Machine

open Sys2Proof

/-! ### The accesses that a region permits -/

section

variable {c : Config} {name : RegionName} {base : U32} {size : Nat} {access : Access} (hwf : c.wf = true)
  (hr : ⟨name, base.toNat, size, access⟩ ∈ c.regions)

include hwf hr

theorem memRead32_permitted {n : Nat} (hn : 4 * n < size)
    (haccess : access = .read32 ∨ access = .readClear32) :
    (Txn.memRead32 (base + BitVec.ofNat 32 (4 * n))).permitted c = true := by
  obtain rfl | rfl := haccess <;>
    simp [Txn.permitted, Config.regionAt_base_add hwf hr hn, Config.aligned4_base_add hwf hr hn nofun nofun]

theorem memWrite32_permitted {n : Nat} {v : U32} (hn : 4 * n < size)
    (haccess : access = .write32 ∨ access = .readClear32) :
    (Txn.memWrite32 (base + BitVec.ofNat 32 (4 * n)) v).permitted c = true := by
  obtain rfl | rfl := haccess <;>
    simp [Txn.permitted, Config.regionAt_base_add hwf hr hn, Config.aligned4_base_add hwf hr hn nofun nofun]

theorem memWrite8_permitted {off : Nat} {v : U8} (hoff : off < size) (haccess : access = .write8) :
    (Txn.memWrite8 (base + BitVec.ofNat 32 off) v).permitted c = true := by
  simp [Txn.permitted, Config.regionAt_base_add hwf hr hoff, haccess]

end

/-! ### The accesses that the engine forms (20_memory.md R77), each for an id of the CPort table -/

section

variable {c : Config} {id : U16} {v : U32} (hwf : c.wf = true)

include hwf

section

variable (hid : id.toNat < c.cportMax)

include hid

theorem memRead32_txqeAddr_permitted : (Txn.memRead32 (c.txqeAddr id)).permitted c = true :=
  memRead32_permitted hwf (name := .txqeStatus) (size := 4 * c.w32) (access := .read32)
    (by simp [Config.regions]) (by simp only [Config.w32]; omega) (.inl rfl)

theorem memWrite32_txResetAddr_permitted : (Txn.memWrite32 (c.txResetAddr id) v).permitted c = true :=
  memWrite32_permitted hwf (name := .txReset) (size := 4 * c.cportMax) (access := .write32)
    (by simp [Config.regions]) (by omega) (.inl rfl)

theorem memWrite32_rxResetAddr_permitted : (Txn.memWrite32 (c.rxResetAddr id) v).permitted c = true :=
  memWrite32_permitted hwf (name := .rxReset) (size := 4 * c.cportMax) (access := .write32)
    (by simp [Config.regions]) (by omega) (.inl rfl)

theorem memWrite32_rxBufAddrReg_permitted : (Txn.memWrite32 (c.rxBufAddrReg id) v).permitted c = true :=
  memWrite32_permitted hwf (name := .rxBufferAddress) (size := 4 * c.cportMax) (access := .write32)
    (by simp [Config.regions]) (by omega) (.inl rfl)

theorem memWrite32_rxPauseReg_permitted : (Txn.memWrite32 (c.rxPauseReg id) v).permitted c = true :=
  memWrite32_permitted hwf (name := .rxPauseSize) (size := 4 * c.cportMax) (access := .write32)
    (by simp [Config.regions]) (by omega) (.inl rfl)

theorem memRead32_eomWordAddr_permitted : (Txn.memRead32 (c.eomWordAddr id)).permitted c = true :=
  memRead32_permitted hwf (name := .eomStatus) (size := 4 * c.w16) (access := .readClear32)
    (by simp [Config.regions]) (by simp only [Config.w16]; omega) (.inr rfl)

theorem memWrite32_eomWordAddr_permitted : (Txn.memWrite32 (c.eomWordAddr id) v).permitted c = true :=
  memWrite32_permitted hwf (name := .eomStatus) (size := 4 * c.w16) (access := .readClear32)
    (by simp [Config.regions]) (by simp only [Config.w16]; omega) (.inr rfl)

theorem memRead32_eotWordAddr_permitted : (Txn.memRead32 (c.eotWordAddr id)).permitted c = true :=
  memRead32_permitted hwf (name := .eotStatus) (size := 4 * c.w32) (access := .read32)
    (by simp [Config.regions]) (by simp only [Config.w32]; omega) (.inl rfl)

theorem memRead32_rxXferSizeReg_permitted : (Txn.memRead32 (c.rxXferSizeReg id)).permitted c = true :=
  memRead32_permitted hwf (name := .rxTransferSize) (size := 4 * c.cportMax) (access := .read32)
    (by simp [Config.regions]) (by omega) (.inl rfl)

/-- A byte at an offset below TX_BUF_STRIDE from the CPort's transmit buffer. -/
theorem memWrite8_txBuf_permitted {off : Nat} {b : U8} (hoff : off < c.txBufStride) :
    (Txn.memWrite8 (c.txBuf id + BitVec.ofNat 32 off) b).permitted c = true := by
  have hin : id.toNat * c.txBufStride + off < c.cportMax * c.txBufStride :=
    calc id.toNat * c.txBufStride + off
      _ < id.toNat * c.txBufStride + c.txBufStride := Nat.add_lt_add_left hoff _
      _ = (id.toNat + 1) * c.txBufStride := (Nat.succ_mul ..).symm
      _ ≤ c.cportMax * c.txBufStride := Nat.mul_le_mul_right _ hid
  rw [Config.txBuf, BitVec.add_assoc, ← BitVec.ofNat_add]
  exact memWrite8_permitted hwf (name := .txBuffers) (access := .write8) (by simp [Config.regions]) hin rfl

end

theorem memWrite32_regE2efcEn0_permitted : (Txn.memWrite32 c.regE2efcEn0 v).permitted c = true := by
  simpa using memWrite32_permitted hwf (name := .e2efcEnable0) (base := c.regE2efcEn0) (size := 4)
    (access := .write32) (n := 0) (by simp [Config.regions]) (by omega) (.inl rfl)

theorem memWrite32_regE2efcEn1_permitted : (Txn.memWrite32 c.regE2efcEn1 v).permitted c = true := by
  simpa using memWrite32_permitted hwf (name := .e2efcEnable1) (base := c.regE2efcEn1) (size := 4)
    (access := .write32) (n := 0) (by simp [Config.regions]) (by omega) (.inl rfl)

end

/-! ### The transaction of PHASE -/

theorem rsId_lt_of_resetIdOk {s : State} (h : s.resetIdOk = true) :
    (s.rsId.getD 0).toNat < s.cfg.cportMax := by
  obtain ⟨r, -, -, hr, -, -, hrange, -⟩ := resetIdOk_iff.1 h
  simpa [hr, Config.idInRange] using hrange

theorem cmdId_lt_of_cmdIdInRange {s : State} (h : s.cmdIdInRange = true) :
    (s.cmdId.getD 0).toNat < s.cfg.cportMax := by
  obtain ⟨id, hid, hrange⟩ := cmdIdInRange_iff.1 h
  simpa [hid, Config.idInRange] using hrange

/-- What PHASE rests on makes its transaction one that the engine may issue (20_memory.md R79, R82). -/
theorem phaseTxn_permitted {s : State} {q : Txn} (hwf : s.cfg.wf = true) (hok : s.phaseOk = true)
    (hq : s.phaseTxn = some q) : q.permitted s.cfg = true := by
  have rs := rsId_lt_of_resetIdOk (s := s)
  have cmd := cmdId_lt_of_cmdIdInRange (s := s)
  obtain ⟨hbuf, hstride⟩ := Config.txEomOffset_of_wf hwf
  cases hp : s.phase <;>
    simp only [State.phaseTxn, State.pendingQuestion, hp, Option.some.injEq, reduceCtorEq] at hq <;>
    simp only [State.phaseOk, hp, Bool.and_eq_true] at hok <;> subst hq
  case rsWaitTxq => exact memRead32_txqeAddr_permitted hwf (rs hok)
  case rsTxAssert | rsTxDeassert => exact memWrite32_txResetAddr_permitted hwf (rs hok)
  case rsRxAssert | rsRxDeassert => exact memWrite32_rxResetAddr_permitted hwf (rs hok)
  case armAddr => exact memWrite32_rxBufAddrReg_permitted hwf (cmd hok.1)
  case armPause => exact memWrite32_rxPauseReg_permitted hwf (cmd hok.1)
  case rxPollEom => exact memRead32_eomWordAddr_permitted hwf (cmd hok)
  case rxPollEot => exact memRead32_eotWordAddr_permitted hwf (cmd hok.1)
  case rxCount => exact memRead32_rxXferSizeReg_permitted hwf (cmd hok)
  case rxClear => exact memWrite32_eomWordAddr_permitted hwf (cmd hok.1)
  case txCopy =>
    obtain ⟨k, len, data, hk, -, -, hlt, hlen, -⟩ := copyOk_iff.1 hok.2
    have hin : k.toNat < s.cfg.txBufStride := by omega
    simpa [hk] using memWrite8_txBuf_permitted hwf (cmd hok.1) hin
  case txEom => exact memWrite8_txBuf_permitted hwf (cmd hok) hstride
  case fcEn0 => exact memWrite32_regE2efcEn0_permitted hwf
  case fcEn1 => exact memWrite32_regE2efcEn1_permitted hwf
  case rsAttr | rxHandler | mbRead | mbAck | lkPoll => rfl

/-- Every transaction of the event history is one that the engine may issue. -/
def State.historyPermitted (s : State) : Prop := ∀ e ∈ s.history, e.txn.permitted s.cfg = true

theorem stepPhase_historyPermitted {s t : State} (hi : s.inv = true) (hs : s.historyPermitted)
    (h : stepPhase s = .next t) : t.historyPermitted := by
  have hb : s.phase ≠ .idle := fun hp => by simp [stepPhase, hp] at h
  obtain ⟨hwf, -, -, -, hrun⟩ := inv_iff.1 hi
  obtain ⟨-, -, -, hok⟩ := hrun hb
  obtain ⟨-, rfl⟩ | ⟨-, q, a, hq, ht⟩ := stepPhase_waits_or_performs h
  · exact hs
  · intro e he
    rw [(stepPhase_keepsCommand h).cfg]
    obtain he | rfl := by simpa [ht] using he
    · exact hs e he
    · exact phaseTxn_permitted hwf hok hq

end Sys2Proof.Machine

open Sys2Proof Sys2Proof.Machine

/-- Settles O48: a reset event empties the history, an accept step leaves it as it is, and the transaction of
PHASE is permitted by what the invariant says of the phase. -/
theorem transactionsStayInRegions : Obligations.TransactionsStayInRegions := by
  intro s t hi hs h
  obtain ⟨rest, -, rfl⟩ | ⟨hp, r, rest, -, ha⟩ | ⟨-, hstep⟩ := step_cases h
  · exact fun e he => absurd he List.not_mem_nil
  · have hcfg : t.cfg = s.cfg := (acceptRequest_cfg (by exact hp) ha :)
    have hhistory : t.history = s.history := (history_of_acceptRequest (by exact hp) ha :)
    rwa [hcfg, hhistory]
  · exact stepPhase_historyPermitted (s := { s with resetIn := s.resetIn.tail }) hi hs hstep

end

section
/-! The command word by its fields (30_encoding.md R111): a word is determined by them, and the one that encodes a
command is the one with the command's fields and RSV = 0. -/

namespace Sys2Proof

/-- The five fields of 30_encoding.md R111 cover the word. -/
theorem word_eq_iff {v w : U32} :
    v = w ↔ opField v = opField w ∧ blockingBit v = blockingBit w ∧ handlerBit v = handlerBit w ∧
      rsvField v = rsvField w ∧ idField v = idField w := by
  refine ⟨fun h => h ▸ ⟨rfl, rfl, rfl, rfl, rfl⟩, fun ⟨hop, hb, hh, hrsv, hid⟩ => ?_⟩
  apply BitVec.eq_of_getLsbD_eq
  intro n hn
  have op := congrArg (BitVec.getLsbD · (n - 28)) hop
  have rsv := congrArg (BitVec.getLsbD · (n - 16)) hrsv
  have id := congrArg (BitVec.getLsbD · n) hid
  simp only [opField, rsvField, idField, BitVec.getLsbD_extractLsb'] at op rsv id
  obtain h | h | rfl | rfl | h : n < 16 ∨ (16 ≤ n ∧ n < 26) ∨ n = 26 ∨ n = 27 ∨ 28 ≤ n := by omega
  · simpa [h] using id
  · simpa [show n - 16 < 10 by omega, show 16 + (n - 16) = n by omega] using rsv
  · exact hh
  · exact hb
  · simpa [show n - 28 < 4 by omega, show 28 + (n - 28) = n by omega] using op

theorem eq_encodeWord_iff {w : U32} {op : BitVec 4} {b h : Bool} {id : U16} :
    w = encodeWord op b h id ↔
      opField w = op ∧ blockingBit w = b ∧ handlerBit w = h ∧ rsvField w = 0#10 ∧ idField w = id := by
  rw [word_eq_iff, opField_encodeWord, blockingBit_encodeWord, handlerBit_encodeWord, rsvField_encodeWord,
    idField_encodeWord]

theorem opField_encode (i : Instr) : opField (encode i).word = i.opcode := opField_encodeWord ..

/-- The check of a command is the check of its request (30_encoding.md R115). -/
theorem encode_wellFormed (i : Instr) : (encode i).wellFormed = i.wellFormed := by
  rw [Request.wellFormed, ← opField, opField_encode]
  cases i <;> rfl

end Sys2Proof
end

section
/-! What the decoder answers (30_encoding.md R112 to R118), said once: `decode_eq_ok_iff` for the commands and
`decode_eq_error_iff` for the illegal words. -/

namespace Sys2Proof

/-! ### The groups of opcodes (30_encoding.md R112) -/

/-- The opcodes of 30_encoding.md R112 that take an ID. -/
abbrev opcodesWithId : List (BitVec 4) := [1#4, 3#4, 4#4, 5#4]

/-- The opcodes of 30_encoding.md R112 that take no ID. -/
abbrev opcodesWithoutId : List (BitVec 4) := [2#4, 6#4, 7#4, 8#4, 9#4]

/-- The opcodes that select no command (30_encoding.md R112, R116). -/
abbrev reservedOpcodes : List (BitVec 4) := [0x0#4, 0xA#4, 0xB#4, 0xC#4, 0xD#4, 0xE#4, 0xF#4]

theorem mem_reservedOpcodes_iff {op : BitVec 4} :
    op ∈ reservedOpcodes ↔ op ∉ opcodesWithId ∧ op ∉ opcodesWithoutId := by
  revert op; decide

theorem notMem_opcodesWithoutId_of_mem {op : BitVec 4} (h : op ∈ opcodesWithId) : op ∉ opcodesWithoutId := by
  revert op; decide

/-- What the command an opcode with an ID selects takes from the request. -/
theorem fields_of_decodeWithId {op : BitVec 4} {r : Request} {i : Instr} (h : decodeWithId op r = some i) :
    i.opcode = op ∧ i.id = idField r.word ∧
      (op = 4#4 → i.blocking = blockingBit r.word ∧ i.handler = handlerBit r.word) ∧
      (op ≠ 4#4 → i.blocking = false ∧ i.handler = false) ∧
      (op = 5#4 → i.len = r.len ∧ i.data = r.data) := by
  unfold decodeWithId at h
  split_ifs at h <;> cases h <;> subst op <;>
    simp [Instr.opcode, Instr.id, Instr.blocking, Instr.handler, Instr.len, Instr.data]

theorem fields_of_decodeWithoutId {op : BitVec 4} {i : Instr} (h : decodeWithoutId op = some i) :
    i.opcode = op ∧ i.id = 0#16 ∧ i.blocking = false ∧ i.handler = false ∧ op ≠ 5#4 := by
  unfold decodeWithoutId at h
  split_ifs at h <;> cases h <;> subst op <;>
    simp [Instr.opcode, Instr.id, Instr.blocking, Instr.handler]

theorem decodeWithId_eq_none_iff {op : BitVec 4} {r : Request} :
    decodeWithId op r = none ↔ op ∉ opcodesWithId := by
  unfold decodeWithId
  split_ifs <;> simp [*]

theorem decodeWithoutId_eq_none_iff {op : BitVec 4} :
    decodeWithoutId op = none ↔ op ∉ opcodesWithoutId := by
  unfold decodeWithoutId
  split_ifs <;> simp [*]

/-- SEND's opcode alone makes the decoder read the operands beside the word (30_encoding.md R115). -/
theorem decodeWithId_eq_of_word_eq {op : BitVec 4} {q r : Request} (hw : q.word = r.word) (h5 : op ≠ 5#4) :
    decodeWithId op q = decodeWithId op r := by
  simp only [decodeWithId, hw, if_neg h5]

/-! ### The commands -/

theorem fields_of_decode {r : Request} {i : Instr} (h : decode r = .ok i) :
    opField r.word = i.opcode ∧ blockingBit r.word = i.blocking ∧ handlerBit r.word = i.handler ∧
      rsvField r.word = 0#10 ∧ idField r.word = i.id ∧
      (opField r.word = 5#4 → r.len = i.len ∧ r.data = i.data) := by
  unfold decode at h
  split at h
  case h_1 => cases h
  case h_2 j hj =>
    split_ifs at h with hrsv hflag
    cases h
    obtain ⟨hop, hid, hreceive, hother, hsend⟩ := fields_of_decodeWithId hj
    obtain ⟨hb, hh⟩ : blockingBit r.word = i.blocking ∧ handlerBit r.word = i.handler := by
      by_cases h4 : opField r.word = 4#4
      · exact (hreceive h4).imp Eq.symm Eq.symm
      · obtain ⟨hb, hh⟩ := hother h4
        simpa [h4, hb, hh] using hflag
    exact ⟨hop.symm, hb, hh, not_not.1 hrsv, hid.symm, fun h5 => (hsend h5).imp Eq.symm Eq.symm⟩
  case h_3 j hnone hj =>
    split_ifs at h with hrsv hflag hid0
    cases h
    obtain ⟨hop, hid, hb, hh, h5⟩ := fields_of_decodeWithoutId hj
    obtain ⟨hb0, hh0⟩ : blockingBit r.word = false ∧ handlerBit r.word = false := by simpa using hflag
    exact ⟨hop.symm, hb0.trans hb.symm, hh0.trans hh.symm, not_not.1 hrsv, (not_not.1 hid0).trans hid.symm,
      fun h => absurd h h5⟩

theorem decode_eq_of_word_eq {q r : Request} (hw : q.word = r.word) (h5 : opField r.word ≠ 5#4) :
    decode q = decode r := by
  simp only [decode, hw, decodeWithId_eq_of_word_eq hw h5]

theorem decode_encode (i : Instr) : decode (encode i) = .ok i := by
  have hword : (encode i).word = encodeWord i.opcode i.blocking i.handler i.id := rfl
  unfold decode
  rw [hword, opField_encodeWord, rsvField_encodeWord, blockingBit_encodeWord, handlerBit_encodeWord,
    idField_encodeWord]
  cases i with
  | resetOne | initCport | send =>
    simp [decodeWithId, decodeWithoutId, encode, idField_encodeWord, Instr.opcode, Instr.id, Instr.blocking,
      Instr.handler, Instr.len, Instr.data]
  | receive =>
    simp [decodeWithId, decodeWithoutId, encode, idField_encodeWord, blockingBit_encodeWord,
      handlerBit_encodeWord, Instr.opcode, Instr.id, Instr.blocking, Instr.handler]
  | resetAll | recvCport | waitLinkUp | prepareReadiness | prepareHandoff => rfl

/-- A request decodes to exactly the command whose word it holds and, for SEND, whose operands it carries
(30_encoding.md R111 to R115). -/
theorem decode_eq_ok_iff {r : Request} {i : Instr} :
    decode r = .ok i ↔ r.word = (encode i).word ∧ (opField r.word = 5#4 → r = encode i) := by
  constructor
  · intro h
    obtain ⟨hop, hb, hh, hrsv, hid, hsend⟩ := fields_of_decode h
    have hw : r.word = (encode i).word := eq_encodeWord_iff.2 ⟨hop, hb, hh, hrsv, hid⟩
    refine ⟨hw, fun h5 => ?_⟩
    obtain ⟨hlen, hdata⟩ := hsend h5
    cases r
    simp_all [encode]
  · rintro ⟨hw, hsend⟩
    by_cases h5 : opField r.word = 5#4
    · rw [hsend h5, decode_encode]
    · rw [← decode_encode i, decode_eq_of_word_eq hw.symm h5]

theorem decode_of_word {w len : U32} {data : List U8} {i : Instr} (hw : w = (encode i).word)
    (h5 : opField w ≠ 5#4) : decode ⟨w, len, data⟩ = .ok i :=
  decode_eq_ok_iff.2 ⟨hw, fun h => absurd h h5⟩

/-! ### The illegal words -/

/-- The four conditions of 30_encoding.md R116. -/
def HasIllegalField (w : U32) : Prop :=
  opField w ∈ reservedOpcodes ∨
    rsvField w ≠ 0 ∨
    ((blockingBit w = true ∨ handlerBit w = true) ∧ opField w ≠ 4#4) ∨
    (idField w ≠ 0 ∧ opField w ∈ opcodesWithoutId)

theorem decode_eq_error_iff {r : Request} :
    (∃ e, decode r = .error e) ↔ HasIllegalField r.word := by
  have hwith := decodeWithId_eq_none_iff (op := opField r.word) (r := r)
  have hwithout := decodeWithoutId_eq_none_iff (op := opField r.word)
  unfold HasIllegalField decode
  split
  case h_1 hi hj =>
    exact iff_of_true ⟨_, rfl⟩ (.inl (mem_reservedOpcodes_iff.2 ⟨hwith.1 hi, hwithout.1 hj⟩))
  case h_2 i hi =>
    have hid : opField r.word ∈ opcodesWithId := by
      by_contra h
      exact nomatch (hwith.2 h).symm.trans hi
    have hlegal := mt mem_reservedOpcodes_iff.1 fun h => h.1 hid
    simp only [hlegal, notMem_opcodesWithoutId_of_mem hid, false_or, and_false, or_false]
    split_ifs with hrsv hflag
    · exact iff_of_true ⟨_, rfl⟩ (.inl hrsv)
    · exact iff_of_true ⟨_, rfl⟩ (.inr (by simpa [and_comm] using hflag))
    · refine iff_of_false nofun (not_or.2 ⟨hrsv, fun h => hflag ?_⟩)
      simpa [and_comm] using h
  case h_3 j hi hj =>
    have hnoId : opField r.word ∈ opcodesWithoutId := by
      by_contra h
      exact nomatch (hwithout.2 h).symm.trans hj
    have hlegal := mt mem_reservedOpcodes_iff.1 fun h => h.2 hnoId
    have h4 : opField r.word ≠ 4#4 := fun h => hwith.1 hi (by simp [h])
    simp only [hlegal, false_or, and_iff_left h4, and_iff_left hnoId]
    split_ifs with hrsv hflag hzero
    · exact iff_of_true ⟨_, rfl⟩ (.inl hrsv)
    · exact iff_of_true ⟨_, rfl⟩ (.inr (.inl (by simpa using hflag)))
    · exact iff_of_true ⟨_, rfl⟩ (.inr (.inr hzero))
    · refine iff_of_false nofun (not_or.2 ⟨hrsv, not_or.2 ⟨?_, hzero⟩⟩)
      simpa using hflag

theorem decode_error_of_word {w len : U32} {data : List U8} (h : HasIllegalField w) :
    ∃ e, decode ⟨w, len, data⟩ = .error e :=
  decode_eq_error_iff.2 h

end Sys2Proof

open Sys2Proof

/-- Settles O1: the word gives back the fields of the command, and SEND's operands travel beside it. -/
theorem decodeOfEncode : Obligations.DecodeOfEncode :=
  fun i hw => ⟨decode_encode i, (encode_wellFormed i).trans hw⟩

/-- Settles O2: one direction of `decode_eq_ok_iff`. -/
theorem encodeOfDecode : Obligations.EncodeOfDecode :=
  fun _ _ => decode_eq_ok_iff.1

end

section
/-! The opcode table beside the decoder (30_encoding.md R113, R116): a word that selects a row agrees with the row's
pattern on the fields that the mask covers, so it has the row's opcode and no illegal field. -/

namespace Sys2Proof

open Sys2Proof.Laws

/-! ### What the table holds -/

section

variable {row : OpcodeRow}

theorem opcodeTable_opField (hrow : row ∈ opcodeTable) : opField row.mask = BitVec.allOnes 4 := by
  revert row; decide

theorem opcodeTable_rsvField (hrow : row ∈ opcodeTable) :
    rsvField row.mask = BitVec.allOnes 10 ∧ rsvField row.pattern = 0#10 := by
  revert row; decide

theorem opcodeTable_flags (hrow : row ∈ opcodeTable) (h4 : opField row.pattern ≠ 4#4) :
    (blockingBit row.mask = true ∧ handlerBit row.mask = true) ∧
      blockingBit row.pattern = false ∧ handlerBit row.pattern = false := by
  revert row; decide

theorem opcodeTable_idField (hrow : row ∈ opcodeTable)
    (hnoId : opField row.pattern ∈ opcodesWithoutId) :
    idField row.mask = BitVec.allOnes 16 ∧ idField row.pattern = 0#16 := by
  revert row; decide

theorem opcodeTable_legal (hrow : row ∈ opcodeTable) :
    opField row.pattern ∉ reservedOpcodes := by
  revert row; decide

theorem eq_of_opField_pattern_eq {row' : OpcodeRow} (hrow : row ∈ opcodeTable) (hrow' : row' ∈ opcodeTable)
    (h : opField row.pattern = opField row'.pattern) : row = row' := by
  have distinct : ∀ row ∈ opcodeTable, ∀ row' ∈ opcodeTable,
      opField row.pattern = opField row'.pattern → row = row' := by decide
  exact distinct row hrow row' hrow' h

/-! ### Selection by fields -/

theorem selects_iff_fields {w : U32} :
    row.selects w = true ↔
      opField w &&& opField row.mask = opField row.pattern ∧
      (blockingBit w && blockingBit row.mask) = blockingBit row.pattern ∧
      (handlerBit w && handlerBit row.mask) = handlerBit row.pattern ∧
      rsvField w &&& rsvField row.mask = rsvField row.pattern ∧
      idField w &&& idField row.mask = idField row.pattern := by
  rw [OpcodeRow.selects, beq_iff_eq, word_eq_iff]
  simp only [opField, blockingBit, handlerBit, rsvField, idField, BitVec.extractLsb'_and, BitVec.getLsbD_and]

theorem opField_of_selects {w : U32} (hrow : row ∈ opcodeTable) (h : row.selects w = true) :
    opField w = opField row.pattern := by
  obtain ⟨hop, -⟩ := selects_iff_fields.1 h
  rwa [opcodeTable_opField hrow, BitVec.and_allOnes] at hop

theorem not_hasIllegalField_of_selects {w : U32} (hrow : row ∈ opcodeTable) (h : row.selects w = true) :
    ¬ HasIllegalField w := by
  have hop := opField_of_selects hrow h
  obtain ⟨-, hb, hh, hrsv, hid⟩ := selects_iff_fields.1 h
  unfold HasIllegalField
  rw [hop]
  rintro (hreserved | hbits | ⟨hflag, h4⟩ | ⟨hne, hnoId⟩)
  · exact opcodeTable_legal hrow hreserved
  · obtain ⟨hmask, hpattern⟩ := opcodeTable_rsvField hrow
    rw [hmask, hpattern, BitVec.and_allOnes] at hrsv
    exact hbits hrsv
  · obtain ⟨⟨hbm, hhm⟩, hbp, hhp⟩ := opcodeTable_flags hrow h4
    rw [hbm, hbp, Bool.and_true] at hb
    rw [hhm, hhp, Bool.and_true] at hh
    simp [hb, hh] at hflag
  · obtain ⟨hmask, hpattern⟩ := opcodeTable_idField hrow hnoId
    rw [hmask, hpattern, BitVec.and_allOnes] at hid
    exact hne hid

theorem eq_of_selects {row' : OpcodeRow} {w : U32} (hrow : row ∈ opcodeTable) (hrow' : row' ∈ opcodeTable)
    (h : row.selects w = true) (h' : row'.selects w = true) : row = row' :=
  eq_of_opField_pattern_eq hrow hrow' ((opField_of_selects hrow h).symm.trans (opField_of_selects hrow' h'))

end

/-! ### Rows and commands -/

/-- The row of a command (30_encoding.md R113). -/
theorem exists_row_selects_encode (i : Instr) :
    ∃ row ∈ opcodeTable, row.mnemonic = i.mnemonic ∧ row.selects (encode i).word = true := by
  cases i with
  | resetOne id => exact SelectsItsRow.resetOne id
  | resetAll => exact SelectsItsRow.resetAll
  | initCport id => exact SelectsItsRow.initCport id
  | receive b h id => exact SelectsItsRow.receive b h id
  | send id len data => exact SelectsItsRow.send id len data
  | recvCport => exact SelectsItsRow.recvCport
  | waitLinkUp => exact SelectsItsRow.waitLinkUp
  | prepareReadiness => exact SelectsItsRow.prepareReadiness
  | prepareHandoff => exact SelectsItsRow.prepareHandoff

theorem decode_error_or_ok (r : Request) : (∃ e, decode r = .error e) ∨ ∃ i, decode r = .ok i := by
  cases decode r with
  | error e => exact .inl ⟨e, rfl⟩
  | ok i => exact .inr ⟨i, rfl⟩

theorem exists_row_selects_of_decode {r : Request} {i : Instr} (h : decode r = .ok i) :
    ∃ row ∈ opcodeTable, row.mnemonic = i.mnemonic ∧ row.selects r.word = true :=
  (decode_eq_ok_iff.1 h).1 ▸ exists_row_selects_encode i

end Sys2Proof

open Sys2Proof

/-- Settles O3: a word with none of the four fields decodes, and a word that decodes selects its command's row. -/
theorem illegalWords : Obligations.IllegalWords := by
  refine fun r => ⟨decode_eq_error_iff, fun herror row hrow => ?_, fun hnone => ?_⟩
  · by_contra h
    exact not_hasIllegalField_of_selects hrow (by simpa using h) (decode_eq_error_iff.1 herror)
  · refine (decode_error_or_ok r).resolve_right fun ⟨i, hi⟩ => ?_
    obtain ⟨row, hrow, -, hsel⟩ := exists_row_selects_of_decode hi
    exact absurd hsel (by simp [hnone row hrow])

/-- Settles O4: the opcode field tells the rows apart, and the row of the command that the word decodes to is the
row that the word selects. -/
theorem opcodeRowsSeparate : Obligations.OpcodeRowsSeparate := by
  intro r row₁ row₂ hrow₁ hrow₂ hsel
  refine ⟨eq_of_selects hrow₁ hrow₂ hsel, ?_⟩
  obtain ⟨i, hi⟩ := (decode_error_or_ok r).resolve_left fun herror =>
    not_hasIllegalField_of_selects hrow₁ hsel (decode_eq_error_iff.1 herror)
  obtain ⟨row, hrow, hname, hrowSel⟩ := exists_row_selects_of_decode hi
  exact ⟨i, hi, eq_of_selects hrow hrow₁ hrowSel hsel ▸ hname.symm⟩

/-- Settles O5: a legal example is the word of its command, and an illegal one has a field of R116. -/
theorem exampleWordsDecode : Obligations.ExampleWordsDecode :=
  ⟨fun _ _ => decode_of_word (by decide) (by decide),
    fun _ _ => decode_of_word (by decide) (by decide),
    decode_encode (.send 1 2 [0xAA, 0x55]),
    fun _ _ => decode_of_word (by decide) (by decide),
    fun _ _ => decode_error_of_word (.inr (.inr (.inl (by decide)))),
    fun _ _ => decode_error_of_word (.inr (.inr (.inr (by decide)))),
    fun _ _ => decode_error_of_word (.inl (by decide))⟩

end

section
/-! The accept step of an illegal word, of a request with operands that its opcode does not use, and of a malformed
SEND (30_encoding.md R115 to R117). -/

namespace Sys2Proof.Machine

open Sys2Proof

theorem acceptRequest_of_ok {r : Request} {i : Instr} (h : decode r = .ok i) (s : State) :
    acceptRequest r s = exec i s := by
  rw [acceptRequest, h]

theorem acceptRequest_of_error {r : Request} {e : Illegal} (h : decode r = .error e) (s : State) :
    acceptRequest r s = acceptIllegal r s := by
  rw [acceptRequest, h]

/-! ### Opcodes other than SEND's -/

theorem wellFormed_of_ne_send {r : Request} (h5 : opField r.word ≠ 5#4) : r.wellFormed = true :=
  if_neg h5

theorem latch_eq_of_word_eq {q r : Request} (hw : q.word = r.word) (h5 : opField r.word ≠ 5#4) (s : State) :
    s.latch q = s.latch r := by
  simp only [State.latch, hw, if_neg h5]

/-- Without SEND's opcode the accept step sees the command word only (30_encoding.md R115). -/
theorem acceptRequest_eq_of_word_eq {q r : Request} (hw : q.word = r.word) (h5 : opField r.word ≠ 5#4)
    (s : State) : acceptRequest q s = acceptRequest r s := by
  have hdecode := decode_eq_of_word_eq hw h5
  cases hr : decode r with
  | ok i => rw [acceptRequest_of_ok hr, acceptRequest_of_ok (hdecode.trans hr)]
  | error e =>
    rw [acceptRequest_of_error hr, acceptRequest_of_error (hdecode.trans hr), acceptIllegal, acceptIllegal,
      wellFormed_of_ne_send h5, wellFormed_of_ne_send (hw ▸ h5), latch_eq_of_word_eq hw h5]

/-! ### The request and the encoding of its command -/

section

variable {r : Request} {i : Instr} (h : decode r = .ok i)

include h

/-- What the request check sees of a request that decodes: that of its command. -/
theorem wellFormed_of_decode : r.wellFormed = i.wellFormed := by
  obtain ⟨hw, hsend⟩ := decode_eq_ok_iff.1 h
  rw [← encode_wellFormed]
  by_cases h5 : opField r.word = 5#4
  · rw [← hsend h5]
  · rw [wellFormed_of_ne_send h5, wellFormed_of_ne_send (hw ▸ h5)]

theorem latch_of_decode (s : State) : s.latch r = s.latch (encode i) := by
  obtain ⟨hw, hsend⟩ := decode_eq_ok_iff.1 h
  by_cases h5 : opField r.word = 5#4
  · rw [← hsend h5]
  · exact (latch_eq_of_word_eq hw.symm h5 s).symm

end

/-- A well-formed request is taken, and the operands beside the word are those of its latch. -/
theorem acceptRequest_latches {r : Request} {s : State} (hi : s.phase = .idle) (hw : r.wellFormed = true) :
    ∃ t, acceptRequest r s = .next t ∧ t.cmdLen = (s.latch r).cmdLen ∧ t.cmdData = (s.latch r).cmdData := by
  cases hr : decode r with
  | error e => exact ⟨_, (acceptRequest_of_error hr s).trans (acceptIllegal_eq_next.2 ⟨hw, rfl⟩), rfl, rfl⟩
  | ok i =>
    refine ⟨_, (acceptRequest_of_ok hr s).trans (exec_of_idle hi ((wellFormed_of_decode hr).symm.trans hw)), ?_⟩
    rw [latch_of_decode hr]
    split <;> exact ⟨rfl, rfl⟩

end Sys2Proof.Machine

open Sys2Proof Sys2Proof.Machine

/-- Settles O10: the illegal word is latched and completed. -/
theorem illegalWordCompletes : Obligations.IllegalWordCompletes := by
  intro s r rest e hi hn hr hw he
  rw [step_of_idle hi hn hr, acceptRequest_of_error he, acceptIllegal_eq_next.2 ⟨hw, rfl⟩]
  cases s
  cases hi
  rfl

/-- Settles O11: without SEND's opcode the accept step sees the word only, and a SEND whose data does not hold len
bytes decodes to an ill-formed command. -/
theorem operandsBesideTheWord : Obligations.OperandsBesideTheWord := by
  intro s r rest len data i hi hn hr
  have hstep := step_of_idle hi hn hr
  refine ⟨fun h5 => ⟨?_, ?_⟩, fun h5 hdecode hlen => ?_⟩
  · rw [hstep, step_of_idle (rest := rest) (by exact hi) (by exact hn) rfl]
    exact acceptRequest_eq_of_word_eq (q := ⟨r.word, len, data⟩) (r := r) rfl h5 _
  · obtain ⟨t, ht, htLen, htData⟩ := acceptRequest_latches
      (s := { s with requests := rest, resetIn := s.resetIn.tail }) hi (wellFormed_of_ne_send h5)
    rw [State.latch_cmdLen, if_neg h5] at htLen
    rw [State.latch_cmdData, if_neg h5] at htData
    exact ⟨t, hstep.trans ht, htLen, htData⟩
  · have hbad : i.wellFormed = false := by
      rw [← wellFormed_of_decode hdecode, Request.wellFormed, ← opField, if_pos h5]
      exact beq_false_of_ne hlen
    rw [hstep, acceptRequest_of_ok hdecode]
    exact ⟨exec_of_illFormed hi hbad, exec_of_illFormed hi hbad⟩

end

section
/-! The host's register view (30_encoding.md R119). -/

namespace Sys2Proof.Machine

open Sys2Proof

/-- Bit `n` of the STATUS word, by field. -/
theorem getLsbD_statusWord (s : State) (n : Nat) :
    s.statusWord.getLsbD n =
      if n = 0 then s.busy
      else if n = 1 then s.done
      else if n < 8 then false
      else s.rspKind.getLsbD (n - 8) := by
  unfold State.statusWord
  simp only [BitVec.getLsbD_append, BitVec.getLsbD_ofBool, BitVec.getLsbD_zero]
  obtain rfl | rfl | h | h | h : n = 0 ∨ n = 1 ∨ (2 ≤ n ∧ n < 8) ∨ (8 ≤ n ∧ n < 12) ∨ 12 ≤ n := by omega
  · simp
  · simp
  · simp [show n ≠ 0 by omega, show n ≠ 1 by omega, h.2, show ¬ n - 1 = 0 by omega,
      show n - 1 - 1 < 6 by omega]
  · simp [show n ≠ 0 by omega, show n ≠ 1 by omega, show ¬ n < 8 by omega, show ¬ n - 1 = 0 by omega,
      show ¬ n - 1 - 1 < 6 by omega, show n - 1 - 1 - 6 = n - 8 by omega, show n - 8 < 4 by omega]
  · simp [show n ≠ 0 by omega, show n ≠ 1 by omega, show ¬ n < 8 by omega, show ¬ n - 1 = 0 by omega,
      show ¬ n - 1 - 1 < 6 by omega, show n - 1 - 1 - 6 = n - 8 by omega,
      BitVec.getLsbD_of_ge s.rspKind (n - 8) (by omega)]

theorem busy_iff {s : State} : s.busy = true ↔ s.phase ≠ .idle := bne_iff_ne

end Sys2Proof.Machine

open Sys2Proof Sys2Proof.Machine

/-- Settles O35: the bits of the STATUS word by `getLsbD_statusWord`, the other registers as they are held. -/
theorem registerView : Obligations.RegisterView := by
  intro s
  refine ⟨⟨s.statusWord, rfl, ?_, ?_, ?_, fun n h0 h1 hkind => ?_⟩, rfl, rfl, rfl,
    ⟨s.rspFailId.setWidth 32, rfl, ?_, ?_⟩, fun _ _ => rfl⟩
  · rw [getLsbD_statusWord, if_pos rfl, busy_iff]
  · rw [getLsbD_statusWord, if_neg one_ne_zero, if_pos rfl]
  · apply BitVec.eq_of_getLsbD_eq
    intro n hn
    rw [BitVec.getLsbD_extractLsb', getLsbD_statusWord]
    simp [hn, show 8 + n ≠ 1 by omega]
  · rw [getLsbD_statusWord, if_neg h0, if_neg h1]
    split
    · rfl
    · exact BitVec.getLsbD_of_ge _ _ (by omega)
  · rw [BitVec.extractLsb'_setWidth_of_le (by decide), BitVec.extractLsb'_eq_self]
  · apply BitVec.eq_of_getLsbD_eq
    intro n hn
    simp

end

section
/-! The command port of an IDLE engine: the request it takes, and the accept step of a well-formed command
(40_command_interface.md R140 to R147). -/

namespace Sys2Proof.Machine

open Sys2Proof

/-- CMD_LEN and CMD_DATA of the latch: a command other than SEND has length 0 and no data (30_encoding.md
R115). -/
theorem send_operands (i : Instr) :
    (if i.opcode = 5#4 then i.len else 0#32) = i.len ∧ (if i.opcode = 5#4 then i.data else []) = i.data := by
  cases i <;> exact ⟨rfl, rfl⟩

/-- The latch of an encoded command writes the command's fields (40_command_interface.md R141). -/
theorem latch_encode (i : Instr) (s : State) :
    s.latch (encode i) = { s with
      done := false
      cmdOp := some i.opcode
      cmdId := some i.id
      cmdBlocking := some i.blocking
      cmdHandler := some i.handler
      cmdLen := some i.len
      cmdData := some i.data
      k := some 0#32
      lastAttrRc := some 0#32
      lastAttrSt := some 0#32 } := by
  obtain ⟨hlen, hdata⟩ := send_operands i
  simp only [State.latch, encode, opField_encodeWord, idField_encodeWord, blockingBit_encodeWord,
    handlerBit_encodeWord, hlen, hdata]

theorem step_of_quiet {s : State} (hi : s.phase = .idle) (hn : s.resetIn.head? ≠ some true)
    (hr : s.requests = []) : step s = .refused .quiescent := by
  simp only [step_of_noReset hn, commandStep, hi, hr]

end Sys2Proof.Machine

open Sys2Proof Sys2Proof.Machine

/-- Settles O6: the latch writes the command's fields, and the command passes the checks. -/
theorem commandAccepted : Obligations.CommandAccepted := by
  intro i s hi hw hc
  rw [exec_of_idle hi hw, if_pos hc, latch_encode]
  rfl

/-- Settles O7: the latched command completes at once, so PHASE stays IDLE. -/
theorem checksEndCommand : Obligations.ChecksEndCommand := by
  intro i s hi hw hc
  rw [exec_of_idle hi hw, if_neg (Bool.eq_false_iff.1 hc), latch_encode]
  cases s
  cases hi
  rfl

/-- Settles O8: the accept step of a request that decodes is `exec` of its command. -/
theorem stepRunsDecodedCommand : Obligations.StepRunsDecodedCommand := by
  intro s r rest i hi hn hr hdecode _
  rw [step_of_idle hi hn hr, acceptRequest_of_ok hdecode]

/-- Settles O12: the command port holds nothing to take. -/
theorem quiescentWithoutRequest : Obligations.QuiescentWithoutRequest :=
  fun _ hi hr hn => step_of_quiet hi hn hr

end

section
/-! Only completion publishes (40_command_interface.md R152): a step of the command port or of the running command
ends in IDLE with DONE set, or leaves the response fields as they are. -/

namespace Sys2Proof.Machine

open Sys2Proof

theorem busy_of_stepPhase {s t : State} (h : stepPhase s = .next t) : s.phase ≠ .idle := by
  intro hi
  simp [stepPhase, hi] at h

/-- From `s` to `t` the command completes, or the engine goes on with the response fields and DONE of `s`. -/
inductive CompletesOrHolds (s t : State) : Prop where
  | completes (idle : t.phase = .idle) (done : t.done = true)
  | holds (busy : t.phase ≠ .idle) (kind : t.rspKind = s.rspKind := by rfl)
      (value : t.rspValue = s.rspValue := by rfl) (attrRc : t.rspAttrRc = s.rspAttrRc := by rfl)
      (attrStatus : t.rspAttrStatus = s.rspAttrStatus := by rfl)
      (failId : t.rspFailId = s.rspFailId := by rfl) (done : t.done = s.done := by rfl)

theorem CompletesOrHolds.complete {kind : Kind} {value : U32} {failId : U16} {s u t : State}
    (hc : Machine.complete kind value failId u = .next t) : CompletesOrHolds s t := by
  obtain ⟨rc, st, -, -, rfl⟩ := complete_eq_next.1 hc
  exact .completes rfl rfl

/-- The transaction of PHASE, by phase: where its rule does not complete, it names a successor or stays. -/
theorem stepPhase_completesOrHolds {s t : State} (h : stepPhase s = .next t) : CompletesOrHolds s t := by
  have busy := busy_of_stepPhase h
  unfold stepPhase at h
  cases hp : s.phase <;> simp only [hp] at h
  case idle => cases h
  case rsWaitTxq =>
    obtain ⟨id, -, ⟨-, rfl⟩ | ⟨w, -, rfl⟩⟩ := rsWaitTxq_eq_next.1 h
    · exact .holds busy
    · split
      · exact .holds nofun
      · exact .holds busy
  case rsTxAssert =>
    obtain ⟨id, -, rfl⟩ := rsTxAssert_eq_next.1 h
    exact .holds nofun
  case rsAttr j =>
    obtain ⟨id, -, ⟨-, rfl⟩ | ⟨rc, st, -, ⟨-, rfl⟩ | ⟨-, hc⟩⟩⟩ := rsAttr_eq_next.1 h
    · exact .holds busy
    · split <;> exact .holds nofun
    · exact .complete hc
  case rsRxAssert =>
    obtain ⟨id, -, rfl⟩ := rsRxAssert_eq_next.1 h
    exact .holds nofun
  case rsTxDeassert =>
    obtain ⟨id, -, rfl⟩ := rsTxDeassert_eq_next.1 h
    exact .holds nofun
  case rsRxDeassert =>
    obtain ⟨id, op, -, -, ⟨-, hc⟩ | ⟨-, ha⟩⟩ := rsRxDeassert_eq_next.1 h
    · exact .complete hc
    · obtain ⟨k, -, ⟨-, rfl⟩ | ⟨-, hc⟩⟩ := resetAdvance_eq_next.1 ha
      · exact .holds nofun
      · exact .complete hc
  case armAddr =>
    obtain ⟨id, -, rfl⟩ := armAddr_eq_next.1 h
    exact .holds nofun
  case armPause =>
    obtain ⟨id, op, -, -, value, -, hc⟩ := armPause_eq_next.1 h
    exact .complete hc
  case rxPollEom =>
    obtain ⟨id, -, ⟨-, rfl⟩ | ⟨w, -, rfl⟩⟩ := rxPollEom_eq_next.1 h
    · exact .holds busy
    · exact .holds nofun
  case rxPollEot =>
    obtain ⟨id, blocking, eomw, -, -, -, ⟨-, rfl⟩ | ⟨w, -, hc⟩⟩ := rxPollEot_eq_next.1 h
    · exact .holds busy
    · obtain ⟨-, hc⟩ | ⟨-, ⟨-, hc⟩ | ⟨-, ⟨-, rfl⟩ | ⟨-, ⟨-, rfl⟩ | ⟨-, hc⟩⟩⟩⟩ := classify_eq_next.1 hc
      · exact .complete hc
      · exact .complete hc
      · exact .holds nofun
      · exact .holds nofun
      · exact .complete hc
  case rxCount =>
    obtain ⟨id, -, ⟨-, rfl⟩ | ⟨w, -, rfl⟩⟩ := rxReadCount_eq_next.1 h
    · exact .holds busy
    · exact .holds nofun
  case rxClear =>
    obtain ⟨id, b, -, -, rfl⟩ := rxClear_eq_next.1 h
    cases b <;> exact .holds nofun
  case rxHandler =>
    obtain ⟨id, count, -, -, ⟨-, rfl⟩ | ⟨rc, -, rfl⟩⟩ := rxHandler_eq_next.1 h
    · exact .holds busy
    · exact .holds nofun
  case txCopy =>
    obtain ⟨id, len, k, data, b, -, -, -, -, -, rfl⟩ := txCopy_eq_next.1 h
    split <;> exact .holds nofun
  case txEom =>
    obtain ⟨id, -, hc⟩ := txEom_eq_next.1 h
    exact .complete hc
  case mbRead =>
    obtain ⟨-, rfl⟩ | ⟨v, st, -, ⟨-, hc⟩ | ⟨-, -, hc⟩ | ⟨-, -, rfl⟩⟩ := mbReadPhase_eq_next.1 h
    · exact .holds busy
    · exact .complete hc
    · exact .complete hc
    · exact .holds nofun
  case mbAck =>
    obtain ⟨v, -, ⟨-, rfl⟩ | ⟨st, -, ⟨-, -, hc⟩ | ⟨-, hc⟩⟩⟩ := mbAckPhase_eq_next.1 h
    · exact .holds busy
    · exact .complete hc
    · exact .complete hc
  case lkPoll =>
    obtain ⟨-, rfl⟩ | ⟨v, rc, st, -, ⟨-, -, hc⟩ | ⟨-, rfl⟩⟩ := lkPoll_eq_next.1 h
    · exact .holds busy
    · exact .complete hc
    · exact .holds busy
  case fcEn0 =>
    obtain rfl := fcEn0_eq_next.1 h
    exact .holds nofun
  case fcEn1 => exact .complete (fcEn1_eq_next.1 h)

theorem startPhase_ne_idle (i : Instr) : startPhase i ≠ .idle := by
  intro hi
  have huses := opcode_mem_usedBy_startPhase i
  rw [hi] at huses
  exact absurd huses List.not_mem_nil

end Sys2Proof.Machine

open Sys2Proof Sys2Proof.Machine

/-- Settles O36: the accept step starts the command with DONE cleared or completes it, and so does the transaction
of PHASE, which leaves DONE alone where it does not complete. -/
theorem onlyCompletionPublishes : Obligations.OnlyCompletionPublishes := by
  intro s t hn h
  obtain ⟨rest, hr, -⟩ | ⟨hi, r, rest, -, ha⟩ | ⟨hb, hstep⟩ := step_cases h
  · exact absurd (by rw [hr]; rfl) hn
  · obtain ⟨i, -, -, rfl⟩ | ⟨q, kind, rfl⟩ := acceptRequest_cases (by exact hi) ha
    · exact .inr ⟨startPhase_ne_idle i, rfl, rfl, rfl, rfl, rfl, fun _ => rfl, fun hb => absurd hi hb⟩
    · exact .inl ⟨rfl, rfl⟩
  · cases stepPhase_completesOrHolds hstep with
    | completes idle done => exact .inl ⟨idle, done⟩
    | holds busy kind value attrRc attrStatus failId done =>
      exact .inr ⟨busy, kind, value, attrRc, attrStatus, failId, fun hi => absurd hi hb, fun _ => done⟩

end

section
/-! What a phase can be refused for (40_command_interface.md R146): an answer of another shape, or a command
for which its rule names no successor. -/

namespace Sys2Proof.Machine

open Sys2Proof

/-- The answer that the engine takes next has the shape of the question, or never comes (00_scope.md R14). -/
def State.answerShaped (s : State) (q : Txn) : Bool := (s.answerTo q).fits q

section

variable {s : State} {r : Refusal}

theorem read_eq_refused {α : Type} {n : RegName} {o : Option α} {f : α → Res State} :
    andThen (readReg n o) f = .refused r ↔ ∃ v, o = some v ∧ f v = .refused r := by
  simp only [andThen_eq_refused, readReg_ne_refused, false_or, readReg_eq_next]

theorem branch_eq_refused {c : Prop} [Decidable c] {x y : Res State} :
    (if c then x else y) = .refused r ↔ (c ∧ x = .refused r) ∨ (¬ c ∧ y = .refused r) := by
  split <;> simp_all

/-! ### The transactions -/

theorem memRead32_eq_refused {a : U32} {use : U32 → State → Res State} :
    memRead32 a s use = .refused r ↔
      (s.answerShaped (.memRead32 a) = false ∧ r = .answerShape) ∨
      ∃ v, s.answerTo (.memRead32 a) = .word v ∧ use v (s.asked (.memRead32 a)) = .refused r := by
  unfold memRead32 ask State.answerShaped Answer.fits
  cases s.answerTo (.memRead32 a) <;> simp [eq_comm]

theorem attrWrite_eq_refused {attr sel : U16} {value : U32} {peer : Bool} {use : U32 → State → Res State} :
    attrWrite attr value sel peer s use = .refused r ↔
      (s.answerShaped (.attrWrite attr value sel peer) = false ∧ r = .answerShape) ∨
      ∃ rc st, s.answerTo (.attrWrite attr value sel peer) = .attrWritten rc st ∧
        use st (s.attrAsked (.attrWrite attr value sel peer) rc st) = .refused r := by
  unfold attrWrite ask State.answerShaped Answer.fits
  cases s.answerTo (.attrWrite attr value sel peer) <;> simp [eq_comm]

theorem attrRead_eq_refused {attr sel : U16} {peer : Bool} {use : U32 → U32 → State → Res State} :
    attrRead attr sel peer s use = .refused r ↔
      (s.answerShaped (.attrRead attr sel peer) = false ∧ r = .answerShape) ∨
      ∃ v rc st, s.answerTo (.attrRead attr sel peer) = .attrValue v rc st ∧
        use v st (s.attrAsked (.attrRead attr sel peer) rc st) = .refused r := by
  unfold attrRead ask State.answerShaped Answer.fits
  cases s.answerTo (.attrRead attr sel peer) <;> simp [eq_comm]

theorem mbxRead_eq_refused {use : U32 → U32 → State → Res State} :
    mbxRead s use = .refused r ↔
      (s.answerShaped .mbxRead = false ∧ r = .answerShape) ∨
      ∃ v st, s.answerTo .mbxRead = .mbxValue v st ∧ use v st (s.asked .mbxRead) = .refused r := by
  unfold mbxRead ask State.answerShaped Answer.fits
  cases s.answerTo .mbxRead <;> simp [eq_comm]

theorem mbxAck_eq_refused {v : U16} {use : U32 → State → Res State} :
    mbxAck v s use = .refused r ↔
      (s.answerShaped (.mbxAck v) = false ∧ r = .answerShape) ∨
      ∃ st, s.answerTo (.mbxAck v) = .mbxStatus st ∧ use st (s.asked (.mbxAck v)) = .refused r := by
  unfold mbxAck ask State.answerShaped Answer.fits
  cases s.answerTo (.mbxAck v) <;> simp [eq_comm]

theorem handlerCall_eq_refused {id : U16} {buf len : U32} {use : U32 → State → Res State} :
    handlerCall id buf len s use = .refused r ↔
      (s.answerShaped (.handlerCall id buf len) = false ∧ r = .answerShape) ∨
      ∃ rc, s.answerTo (.handlerCall id buf len) = .handlerReturn rc ∧
        use rc (s.asked (.handlerCall id buf len)) = .refused r := by
  unfold handlerCall ask State.answerShaped Answer.fits
  cases s.answerTo (.handlerCall id buf len) <;> simp [eq_comm]

/-! ### The phases -/

theorem resetAdvance_ne_refused : resetAdvance s ≠ .refused r := by
  simp [resetAdvance, read_eq_refused, branch_eq_refused, complete_ne_refused]

theorem classify_ne_refused {id : U16} {eomw eotw : U32} {blocking : Bool} :
    classify id eomw eotw blocking s ≠ .refused r := by
  simp [classify, branch_eq_refused, complete_ne_refused]

/-- A running command is refused in a foreign phase, or for the answer to its question. Reading a register and
completing are never refused. -/
theorem stepPhase_eq_refused (hb : s.phase ≠ .idle) (h : stepPhase s = .refused r) :
    r = .foreignPhase ∨ ∃ q, s.pendingQuestion = some q ∧ s.answerShaped q = false := by
  unfold stepPhase at h
  cases hp : s.phase <;> simp only [hp] at h
  case idle => exact absurd hp hb
  case rsTxAssert | rsRxAssert | rsTxDeassert | armAddr | rxClear | txCopy | txEom | fcEn0 | fcEn1 =>
    simp [rsTxAssert, rsRxAssert, rsTxDeassert, armAddr, rxClear, txCopy, txEom, fcEn0, fcEn1,
      read_eq_refused, complete_ne_refused] at h
  case rsRxDeassert =>
    simp only [rsRxDeassert, read_eq_refused, branch_eq_refused, complete_ne_refused, resetAdvance_ne_refused,
      and_false, false_or, Host.Outcome.refused.injEq] at h
    obtain ⟨-, -, -, -, -, -, hr⟩ := h
    exact .inl hr.symm
  case armPause =>
    simp only [armPause, read_eq_refused, branch_eq_refused, complete_ne_refused, and_false, exists_false,
      or_false, false_or, Host.Outcome.refused.injEq] at h
    obtain ⟨-, -, -, -, -, -, hr⟩ := h
    exact .inl hr.symm
  case rsWaitTxq | rxPollEom | rxCount =>
    simp only [rsWaitTxq, rxPollEom, rxReadCount, read_eq_refused, memRead32_eq_refused, reduceCtorEq, and_false,
      exists_false, or_false] at h
    obtain ⟨id, hid, hshape, -⟩ := h
    exact .inr ⟨_, by simp [State.pendingQuestion, hp, hid], hshape⟩
  case rsAttr j =>
    simp only [rsAttr, read_eq_refused, attrWrite_eq_refused, branch_eq_refused, complete_ne_refused,
      reduceCtorEq, and_false, exists_false, or_false] at h
    obtain ⟨id, hid, hshape, -⟩ := h
    exact .inr ⟨_, by simp [State.pendingQuestion, hp, hid], hshape⟩
  case rxPollEot =>
    simp only [rxPollEot, read_eq_refused, memRead32_eq_refused, classify_ne_refused, and_false,
      exists_false, or_false] at h
    obtain ⟨id, hid, -, -, -, -, hshape, -⟩ := h
    exact .inr ⟨_, by simp [State.pendingQuestion, hp, hid], hshape⟩
  case rxHandler =>
    simp only [rxHandler, read_eq_refused, handlerCall_eq_refused, reduceCtorEq, and_false, exists_false,
      or_false] at h
    obtain ⟨id, hid, count, hcount, hshape, -⟩ := h
    exact .inr ⟨_, by simp [State.pendingQuestion, hp, hid, hcount], hshape⟩
  case mbRead =>
    simp only [mbReadPhase, mbxRead_eq_refused, branch_eq_refused, complete_ne_refused, reduceCtorEq,
      and_false, exists_false, or_false] at h
    obtain ⟨hshape, -⟩ := h
    exact .inr ⟨_, by simp [State.pendingQuestion, hp], hshape⟩
  case mbAck =>
    simp only [mbAckPhase, read_eq_refused, mbxAck_eq_refused, branch_eq_refused, complete_ne_refused,
      and_false, exists_false, or_false] at h
    obtain ⟨v, hv, hshape, -⟩ := h
    exact .inr ⟨_, by simp [State.pendingQuestion, hp, hv], hshape⟩
  case lkPoll =>
    simp only [lkPoll, attrRead_eq_refused, branch_eq_refused, complete_ne_refused, reduceCtorEq, and_false,
      exists_false, or_false] at h
    obtain ⟨hshape, -⟩ := h
    exact .inr ⟨_, by simp [State.pendingQuestion, hp], hshape⟩

/-- A free draw has the shape of its question (00_scope.md R16). -/
theorem freeAnswer_fits (q : Txn) (n : Nat) : (q.freeAnswer n).fits q = true := by
  cases q <;> rfl

theorem answerShaped_of_answerFits {q : Txn} (hfits : s.answerFits = true)
    (hq : s.pendingQuestion = some q) : s.answerShaped q = true := by
  unfold State.answerShaped State.answerTo
  cases ha : s.answers with
  | nil => exact freeAnswer_fits q s.draws
  | cons a rest => simpa [State.answerFits, hq, ha] using hfits

end

end Sys2Proof.Machine

open Sys2Proof Sys2Proof.Machine

/-- Settles O47: the invariant shuts out the faults and the foreign phase, and the shape of the answer shuts out
the only other refusal. -/
theorem busyEngineSteps : Obligations.BusyEngineSteps := by
  intro s hs hb hfits
  obtain ⟨nofault, noForeign⟩ := noModelFault s hs
  by_cases hn : s.resetIn.head? = some true
  · obtain ⟨rest, hr⟩ := List.head?_eq_some_iff.1 hn
    exact ⟨_, step_of_reset hr⟩
  cases hstep : step s with
  | next t => exact ⟨t, rfl⟩
  | fault f => exact absurd hstep (nofault f)
  | refused r =>
    rw [step_of_busy hb hn] at hstep
    obtain rfl | ⟨q, hq, hshape⟩ := stepPhase_eq_refused (by exact hb) hstep
    · exact absurd ((step_of_busy hb hn).trans hstep) noForeign
    · exact absurd (answerShaped_of_answerFits (s := { s with resetIn := s.resetIn.tail }) hfits hq)
        (Bool.eq_false_iff.1 hshape)

end

section
/-! Changes of the state that an operation does not see: it has the same outcome with the change made before and
after it. The rules of the shared operations hold for every change that leaves alone what they use. -/

namespace Sys2Proof.Machine

open Sys2Proof

/-- The outcome `x` is the outcome `y` with its next state changed by `h`. -/
def OutcomeUnder (h : State → State) (x y : Res State) : Prop := x = mapNext h y

/-- The operation does not see the change `h` of its state, and keeps it. -/
def BlindTo (h : State → State) (f : State → Res State) : Prop := ∀ s, OutcomeUnder h (f (h s)) (f s)

variable {h : State → State} {u v : State}

theorem BlindTo.under {f : State → Res State} (hf : BlindTo h f) (hu : u = h v) :
    OutcomeUnder h (f u) (f v) :=
  hu ▸ hf v

theorem under_next (hu : u = h v) : OutcomeUnder h (.next u) (.next v) := congrArg Host.Outcome.next hu

theorem under_andThen {α : Type} {x : Res α} {f g : α → Res State}
    (hfg : ∀ a, OutcomeUnder h (f a) (g a)) : OutcomeUnder h (andThen x f) (andThen x g) := by
  cases x with
  | next a => exact hfg a
  | fault | refused => rfl

theorem under_ite {c : Prop} [Decidable c] {x y x' y' : Res State} (hx : OutcomeUnder h x x')
    (hy : OutcomeUnder h y y') : OutcomeUnder h (if c then x else y) (if c then x' else y') := by
  split <;> assumption

/-- A transaction takes the same answer, or waits for it. -/
theorem under_ask {q : Txn} {f g : Answer → Res State} (hu : u = h v) (hans : u.answerTo q = v.answerTo q)
    (hfg : ∀ a, OutcomeUnder h (f a) (g a)) : OutcomeUnder h (ask q u f) (ask q v g) := by
  by_cases hv : v.answerTo q = .never
  · rw [ask_of_never hv, ask_of_never (hans.trans hv)]
    exact under_next hu
  · rw [ask_of_answered hv, ask_of_answered (hans ▸ hv), hans]
    exact hfg _

theorem under_memRead32 {a : U32} {use : U32 → State → Res State} (huse : ∀ w, BlindTo h (use w))
    (hu : u = h v := by rfl) (hans : u.answerTo (.memRead32 a) = v.answerTo (.memRead32 a) := by rfl)
    (hasked : u.asked (.memRead32 a) = h (v.asked (.memRead32 a)) := by rfl) :
    OutcomeUnder h (memRead32 a u use) (memRead32 a v use) :=
  under_ask hu hans fun
    | .word w => (huse w).under hasked
    | .nothing | .byte _ | .attrWritten _ _ | .attrValue _ _ _ | .mbxValue _ _ | .mbxStatus _
    | .handlerReturn _ | .never => rfl

theorem under_attrWrite {attr sel : U16} {value : U32} {peer : Bool} {use : U32 → State → Res State}
    (huse : ∀ st, BlindTo h (use st)) (hu : u = h v := by rfl)
    (hans : u.answerTo (.attrWrite attr value sel peer) =
      v.answerTo (.attrWrite attr value sel peer) := by rfl)
    (hasked : ∀ rc st, u.attrAsked (.attrWrite attr value sel peer) rc st =
      h (v.attrAsked (.attrWrite attr value sel peer) rc st) := by exact fun _ _ => rfl) :
    OutcomeUnder h (attrWrite attr value sel peer u use) (attrWrite attr value sel peer v use) :=
  under_ask hu hans fun
    | .attrWritten rc st => (huse st).under (hasked rc st)
    | .nothing | .byte _ | .word _ | .attrValue _ _ _ | .mbxValue _ _ | .mbxStatus _
    | .handlerReturn _ | .never => rfl

theorem under_attrRead {attr sel : U16} {peer : Bool} {use : U32 → U32 → State → Res State}
    (huse : ∀ w st, BlindTo h (use w st)) (hu : u = h v := by rfl)
    (hans : u.answerTo (.attrRead attr sel peer) = v.answerTo (.attrRead attr sel peer) := by rfl)
    (hasked : ∀ rc st, u.attrAsked (.attrRead attr sel peer) rc st =
      h (v.attrAsked (.attrRead attr sel peer) rc st) := by exact fun _ _ => rfl) :
    OutcomeUnder h (attrRead attr sel peer u use) (attrRead attr sel peer v use) :=
  under_ask hu hans fun
    | .attrValue w rc st => (huse w st).under (hasked rc st)
    | .nothing | .byte _ | .word _ | .attrWritten _ _ | .mbxValue _ _ | .mbxStatus _
    | .handlerReturn _ | .never => rfl

theorem under_mbxRead {use : U32 → U32 → State → Res State} (huse : ∀ w st, BlindTo h (use w st))
    (hu : u = h v := by rfl) (hans : u.answerTo .mbxRead = v.answerTo .mbxRead := by rfl)
    (hasked : u.asked .mbxRead = h (v.asked .mbxRead) := by rfl) :
    OutcomeUnder h (mbxRead u use) (mbxRead v use) :=
  under_ask hu hans fun
    | .mbxValue w st => (huse w st).under hasked
    | .nothing | .byte _ | .word _ | .attrWritten _ _ | .attrValue _ _ _ | .mbxStatus _
    | .handlerReturn _ | .never => rfl

theorem under_mbxAck {w : U16} {use : U32 → State → Res State} (huse : ∀ st, BlindTo h (use st))
    (hu : u = h v := by rfl) (hans : u.answerTo (.mbxAck w) = v.answerTo (.mbxAck w) := by rfl)
    (hasked : u.asked (.mbxAck w) = h (v.asked (.mbxAck w)) := by rfl) :
    OutcomeUnder h (mbxAck w u use) (mbxAck w v use) :=
  under_ask hu hans fun
    | .mbxStatus st => (huse st).under hasked
    | .nothing | .byte _ | .word _ | .attrWritten _ _ | .attrValue _ _ _ | .mbxValue _ _
    | .handlerReturn _ | .never => rfl

theorem under_handlerCall {id : U16} {buf len : U32} {use : U32 → State → Res State}
    (huse : ∀ rc, BlindTo h (use rc)) (hu : u = h v := by rfl)
    (hans : u.answerTo (.handlerCall id buf len) = v.answerTo (.handlerCall id buf len) := by rfl)
    (hasked : u.asked (.handlerCall id buf len) = h (v.asked (.handlerCall id buf len)) := by rfl) :
    OutcomeUnder h (handlerCall id buf len u use) (handlerCall id buf len v use) :=
  under_ask hu hans fun
    | .handlerReturn rc => (huse rc).under hasked
    | .nothing | .byte _ | .word _ | .attrWritten _ _ | .attrValue _ _ _ | .mbxValue _ _
    | .mbxStatus _ | .never => rfl

theorem under_complete {kind : Kind} {value : U32} {failId : U16}
    (hrc : u.lastAttrRc = v.lastAttrRc := by rfl) (hst : u.lastAttrSt = v.lastAttrSt := by rfl)
    (hcompleted : ∀ rc st, u.completed kind value failId rc st =
      h (v.completed kind value failId rc st) := by exact fun _ _ => rfl) :
    OutcomeUnder h (complete kind value failId u) (complete kind value failId v) := by
  unfold complete
  rw [hrc, hst]
  exact under_andThen fun _ => under_andThen fun _ => under_next (hcompleted _ _)

end Sys2Proof.Machine
end

section
/-! A running command does not see the requests that the host presents (10_state.md R37, 40_command_interface.md
R140). -/

namespace Sys2Proof.Machine

open Sys2Proof

/-- The state in which the host presents `reqs`. -/
def State.withRequests (reqs : List Request) (s : State) : State := { s with requests := reqs }

/-- An operation that does not see the requests leaves them as they are. -/
theorem requests_of_blind {f : State → Res State} (hf : ∀ reqs, BlindTo (.withRequests reqs) f)
    {s t : State} (ht : f s = .next t) : t.requests = s.requests := by
  have same : f s = mapNext (.withRequests s.requests) (f s) := hf s.requests s
  rw [ht, mapNext, andThen_next] at same
  exact (congrArg State.requests (Host.Outcome.next.inj same) :)

section

variable (reqs : List Request)

/-! ### The phases -/

theorem resetAdvance_blind : BlindTo (.withRequests reqs) resetAdvance :=
  fun _ => under_andThen fun _ => under_ite (under_next rfl) under_complete

theorem classify_blind (id : U16) (eomw eotw : U32) (blocking : Bool) :
    BlindTo (.withRequests reqs) (classify id eomw eotw blocking) :=
  fun _ => under_ite under_complete <| under_ite under_complete <|
    under_ite (under_next rfl) <| under_ite (under_next rfl) under_complete

/-- The transaction of PHASE, by phase: each reads its registers, has its answer and goes on with the same. -/
theorem stepPhase_blind : BlindTo (.withRequests reqs) stepPhase := by
  intro s
  have samePhase : (s.withRequests reqs).phase = s.phase := rfl
  unfold stepPhase
  rw [samePhase]
  cases s.phase with
  | idle => rfl
  | rsWaitTxq => exact under_andThen fun _ => under_memRead32 fun _ _ => under_next (by split <;> rfl)
  | rsTxAssert | rsRxAssert | rsTxDeassert | armAddr => exact under_andThen fun _ => under_next rfl
  | rsAttr j =>
    exact under_andThen fun _ => under_attrWrite fun _ _ =>
      under_ite (under_next rfl) under_complete
  | rsRxDeassert =>
    exact under_andThen fun _ => under_andThen fun _ => under_ite under_complete <|
      under_ite ((resetAdvance_blind reqs).under rfl) rfl
  | armPause =>
    exact under_andThen fun _ => under_andThen fun _ => under_ite under_complete <|
      under_ite (under_andThen fun _ => under_ite
        (under_andThen fun _ => under_complete) under_complete) rfl
  | rxPollEom | rxCount => exact under_andThen fun _ => under_memRead32 fun _ _ => under_next rfl
  | rxPollEot =>
    exact under_andThen fun _ => under_andThen fun _ => under_andThen fun _ =>
      under_memRead32 fun _ _ => (classify_blind reqs _ _ _ _).under rfl
  | rxClear => exact under_andThen fun _ => under_andThen fun _ => under_next rfl
  | rxHandler =>
    exact under_andThen fun _ => under_andThen fun _ => under_handlerCall fun _ _ =>
      under_next rfl
  | txCopy =>
    exact under_andThen fun _ => under_andThen fun _ => under_andThen fun _ =>
      under_andThen fun _ => under_andThen fun _ => under_next rfl
  | txEom => exact under_andThen fun _ => under_complete
  | mbRead =>
    exact under_mbxRead fun _ _ _ => under_ite under_complete <| under_ite under_complete <|
      under_ite under_complete (under_next rfl)
  | mbAck => exact under_andThen fun _ => under_mbxAck fun _ _ => under_ite under_complete under_complete
  | lkPoll => exact under_attrRead fun _ _ _ => under_ite under_complete (under_next rfl)
  | fcEn0 => exact under_next rfl
  | fcEn1 => exact under_complete

end

end Sys2Proof.Machine

open Sys2Proof Sys2Proof.Machine

/-- Settles O9: the step is the transaction of PHASE, which does not see the requests. -/
theorem busyEngineIgnoresRequests : Obligations.BusyEngineIgnoresRequests := by
  intro i s reqs hb hn
  have hstep := step_of_busy hb hn
  refine ⟨?_, ?_, fun t ht => ?_⟩
  · rw [hstep, exec_of_busy i (by exact hb)]
  · rw [hstep, step_of_busy (by exact hb) (by exact hn)]
    exact stepPhase_blind reqs { s with resetIn := s.resetIn.tail }
  · exact (requests_of_blind stepPhase_blind (hstep.symm.trans ht) :)

end

section
/-! PREPARE_HANDOFF beside RESET_ALL (41_reset_engine.md R184, R185): no phase of the reset sequence sees which of
the two opcodes CMD_OP holds. -/

namespace Sys2Proof.Machine

open Sys2Proof

/-- The state with the opcode of PREPARE_HANDOFF in CMD_OP. -/
def State.asHandoff (s : State) : State := { s with cmdOp := some 9#4 }

/-- A command with no ID and no length owes no check (40_command_interface.md R142). -/
theorem passesChecks_of_noOperands {c : Config} {i : Instr} (hid : i.takesId = false) (hlen : i.len = 0#32) :
    passesChecks c i = true := by
  simp [passesChecks, hid, hlen]

/-- RS_RX_DEASSERT of RESET_ALL and of PREPARE_HANDOFF ends with the advance of R181. -/
theorem rsRxDeassert_of_advances {s : State} {op : BitVec 4} (hop : s.cmdOp = some op)
    (hadvances : op = 2#4 ∨ op = 9#4) :
    rsRxDeassert s = andThen (readReg .rsId s.rsId) fun id =>
      resetAdvance ((s.wrote (.memWrite32 (s.cfg.rxResetAddr id) 0#32)).setLife id .resetDone) := by
  obtain rfl | rfl := hadvances <;> simp [rsRxDeassert, hop, memWrite32]

theorem resetAdvance_asHandoff : BlindTo State.asHandoff resetAdvance :=
  fun _ => under_andThen fun _ => under_ite (under_next rfl) under_complete

/-- A step of RESET_ALL in any of its phases, beside the step of PREPARE_HANDOFF there. -/
theorem stepPhase_asHandoff {s : State} (hop : s.cmdOp = some 2#4) (huses : 2#4 ∈ s.phase.usedBy) :
    OutcomeUnder State.asHandoff (stepPhase s.asHandoff) (stepPhase s) := by
  have samePhase : s.asHandoff.phase = s.phase := rfl
  unfold stepPhase
  rw [samePhase]
  cases hp : s.phase with
  | rsWaitTxq => exact under_andThen fun _ => under_memRead32 fun _ _ => under_next (by split <;> rfl)
  | rsTxAssert | rsRxAssert | rsTxDeassert => exact under_andThen fun _ => under_next rfl
  | rsAttr j =>
    exact under_andThen fun _ => under_attrWrite fun _ _ => under_ite (under_next rfl) under_complete
  | rsRxDeassert =>
    have hop' : s.asHandoff.cmdOp = some 9#4 := rfl
    simp only [rsRxDeassert_of_advances hop (.inl rfl), rsRxDeassert_of_advances hop' (.inr rfl)]
    exact under_andThen fun _ => resetAdvance_asHandoff.under rfl
  | _ =>
    rw [hp] at huses
    exact absurd huses (by decide)

end Sys2Proof.Machine

open Sys2Proof Sys2Proof.Machine

/-- Settles O49: the two accept steps latch alike but for CMD_OP, and no phase of the reset sequence tells the two
opcodes apart. -/
theorem handoffIsResetAll : Obligations.HandoffIsResetAll := by
  refine ⟨fun s hi => ?_, fun s hb huses hn hop => ?_⟩
  · rw [exec_of_idle hi rfl, exec_of_idle hi rfl, if_pos (passesChecks_of_noOperands rfl rfl),
      if_pos (passesChecks_of_noOperands rfl rfl), latch_encode, latch_encode]
    rfl
  · rw [step_of_busy hb hn, step_of_busy (by exact hb) (by exact hn)]
    exact stepPhase_asHandoff (s := { s with resetIn := s.resetIn.tail }) hop huses

end

section
/-! The transaction of each phase of the reset sequence as an equation: from the registers and the answer to the next
state (41_reset_engine.md R171 to R181). -/

namespace Sys2Proof.Machine

open Sys2Proof

variable {s : State} {id : U16}

theorem asked_of_answerTo {q : Txn} {a : Answer} (ha : s.answerTo q = a) :
    s.asked q = { s with
      history := s.history ++ [⟨q, a⟩]
      answers := s.answers.tail
      draws := if s.answers.isEmpty then s.draws + 1 else s.draws } := by
  rw [State.asked, ha]

theorem bitSet_iff {w mask : U32} : bitSet w mask = true ↔ w &&& mask ≠ 0 := bne_iff_ne

theorem stepPhase_of_rsWaitTxq {w : U32} (hp : s.phase = .rsWaitTxq) (hid : s.rsId = some id)
    (ha : s.answerTo (.memRead32 (s.cfg.txqeAddr id)) = .word w) :
    stepPhase s = .next { s with
      history := s.history ++ [⟨.memRead32 (s.cfg.txqeAddr id), .word w⟩]
      answers := s.answers.tail
      draws := if s.answers.isEmpty then s.draws + 1 else s.draws
      phase := if w &&& txqeMask id ≠ 0 then .rsTxAssert else .rsWaitTxq } := by
  have hphase : stepPhase s = rsWaitTxq s := by rw [stepPhase, hp]
  refine hphase.trans (rsWaitTxq_eq_next.2 ⟨id, hid, .inr ⟨w, ha, ?_⟩⟩)
  rw [asked_of_answerTo ha]
  simp only [bitSet_iff]
  split
  · rfl
  · rw [← hp]

theorem stepPhase_of_rsTxAssert (hp : s.phase = .rsTxAssert) (hid : s.rsId = some id) :
    stepPhase s = .next { s with
      history := s.history ++ [⟨.memWrite32 (s.cfg.txResetAddr id) s.cfg.txResetWord, .nothing⟩]
      phase := .rsAttr 0 } := by
  have hphase : stepPhase s = rsTxAssert s := by rw [stepPhase, hp]
  exact hphase.trans (rsTxAssert_eq_next.2 ⟨id, hid, rfl⟩)

theorem stepPhase_of_rsAttr {j : Fin 4} {rc : U32} (hp : s.phase = .rsAttr j) (hid : s.rsId = some id)
    (ha : s.answerTo (.attrWrite (s.cfg.resetAttr j) 0#32 id false) = .attrWritten rc 0) :
    stepPhase s = .next { s with
      history := s.history ++ [⟨.attrWrite (s.cfg.resetAttr j) 0 id false, .attrWritten rc 0⟩]
      answers := s.answers.tail
      draws := if s.answers.isEmpty then s.draws + 1 else s.draws
      lastAttrRc := some rc
      lastAttrSt := some 0
      phase := if j = 3 then .rsRxAssert else .rsAttr (j + 1) } := by
  have hphase : stepPhase s = rsAttr j s := by rw [stepPhase, hp]
  refine hphase.trans (rsAttr_eq_next.2 ⟨id, hid, .inr ⟨rc, 0, ha, .inl ⟨rfl, ?_⟩⟩⟩)
  rw [State.attrAsked, asked_of_answerTo ha]
  rfl

/-- A status other than 0 ends the command (41_reset_engine.md R174). -/
theorem stepPhase_of_rsAttr_failed {j : Fin 4} {rc st : U32} (hp : s.phase = .rsAttr j)
    (hid : s.rsId = some id) (hst : st ≠ 0)
    (ha : s.answerTo (.attrWrite (s.cfg.resetAttr j) 0#32 id false) = .attrWritten rc st) :
    stepPhase s = .next { s with
      history := s.history ++ [⟨.attrWrite (s.cfg.resetAttr j) 0 id false, .attrWritten rc st⟩]
      answers := s.answers.tail
      draws := if s.answers.isEmpty then s.draws + 1 else s.draws
      lastAttrRc := some rc
      lastAttrSt := some st
      life := s.life.set id.toNat .halfReset
      rspKind := 2
      rspValue := 0
      rspAttrRc := rc
      rspAttrStatus := st
      rspFailId := id
      done := true
      phase := .idle } := by
  have hphase : stepPhase s = rsAttr j s := by rw [stepPhase, hp]
  refine hphase.trans (rsAttr_eq_next.2 ⟨id, hid, .inr ⟨rc, st, ha, .inr ⟨hst, ?_⟩⟩⟩)
  rw [State.attrAsked, asked_of_answerTo ha]
  exact complete_of_held rfl rfl

theorem stepPhase_of_rsRxAssert (hp : s.phase = .rsRxAssert) (hid : s.rsId = some id) :
    stepPhase s = .next { s with
      history := s.history ++ [⟨.memWrite32 (s.cfg.rxResetAddr id) s.cfg.rxResetWord, .nothing⟩]
      phase := .rsTxDeassert } := by
  have hphase : stepPhase s = rsRxAssert s := by rw [stepPhase, hp]
  exact hphase.trans (rsRxAssert_eq_next.2 ⟨id, hid, rfl⟩)

theorem stepPhase_of_rsTxDeassert (hp : s.phase = .rsTxDeassert) (hid : s.rsId = some id) :
    stepPhase s = .next { s with
      history := s.history ++ [⟨.memWrite32 (s.cfg.txResetAddr id) 0, .nothing⟩]
      phase := .rsRxDeassert } := by
  have hphase : stepPhase s = rsTxDeassert s := by rw [stepPhase, hp]
  exact hphase.trans (rsTxDeassert_eq_next.2 ⟨id, hid, rfl⟩)

/-- The last transaction of RESET_ONE (41_reset_engine.md R177). -/
theorem stepPhase_of_rsRxDeassert_resetOne {rc st : U32} (hp : s.phase = .rsRxDeassert)
    (hid : s.rsId = some id) (hop : s.cmdOp = some 1#4) (hrc : s.lastAttrRc = some rc)
    (hst : s.lastAttrSt = some st) :
    stepPhase s = .next { s with
      history := s.history ++ [⟨.memWrite32 (s.cfg.rxResetAddr id) 0, .nothing⟩]
      life := s.life.set id.toNat .resetDone
      rspKind := 0
      rspValue := 0
      rspAttrRc := rc
      rspAttrStatus := st
      rspFailId := 0
      done := true
      phase := .idle } := by
  have hphase : stepPhase s = rsRxDeassert s := by rw [stepPhase, hp]
  exact hphase.trans (rsRxDeassert_eq_next.2 ⟨id, _, hid, hop, .inl ⟨rfl, complete_of_held hrc hst⟩⟩)

/-- The advance of RESET_ALL and PREPARE_HANDOFF to the id `k + 1` (41_reset_engine.md R181). -/
theorem stepPhase_of_rsRxDeassert_advances {op : BitVec 4} {k : U32} (hp : s.phase = .rsRxDeassert)
    (hid : s.rsId = some id) (hop : s.cmdOp = some op) (hadvances : op = 2#4 ∨ op = 9#4)
    (hk : s.k = some k) (hmore : (k + 1).toNat < s.cfg.cportMax) :
    stepPhase s = .next { s with
      history := s.history ++ [⟨.memWrite32 (s.cfg.rxResetAddr id) 0, .nothing⟩]
      life := s.life.set id.toNat .resetDone
      k := some (k + 1)
      rsId := some ((k + 1).setWidth 16)
      phase := .rsWaitTxq } := by
  have hphase : stepPhase s = rsRxDeassert s := by rw [stepPhase, hp]
  exact hphase.trans (rsRxDeassert_eq_next.2 ⟨id, op, hid, hop, .inr ⟨hadvances,
    resetAdvance_eq_next.2 ⟨k, hk, .inl ⟨hmore, rfl⟩⟩⟩⟩)

/-- The end of RESET_ALL and PREPARE_HANDOFF after the last id (41_reset_engine.md R181). -/
theorem stepPhase_of_rsRxDeassert_ends {op : BitVec 4} {k rc st : U32} (hp : s.phase = .rsRxDeassert)
    (hid : s.rsId = some id) (hop : s.cmdOp = some op) (hadvances : op = 2#4 ∨ op = 9#4)
    (hk : s.k = some k) (hlast : s.cfg.cportMax ≤ (k + 1).toNat) (hrc : s.lastAttrRc = some rc)
    (hst : s.lastAttrSt = some st) :
    stepPhase s = .next { s with
      history := s.history ++ [⟨.memWrite32 (s.cfg.rxResetAddr id) 0, .nothing⟩]
      life := s.life.set id.toNat .resetDone
      k := some (k + 1)
      rspKind := 0
      rspValue := 0
      rspAttrRc := rc
      rspAttrStatus := st
      rspFailId := 0
      done := true
      phase := .idle } := by
  have hphase : stepPhase s = rsRxDeassert s := by rw [stepPhase, hp]
  exact hphase.trans (rsRxDeassert_eq_next.2 ⟨id, op, hid, hop, .inr ⟨hadvances,
    resetAdvance_eq_next.2 ⟨k, hk, .inr ⟨hlast, complete_of_held hrc hst⟩⟩⟩⟩)

/-- While a command runs, the three reset commands take the step of PHASE (10_state.md R37). -/
theorem exec_resets_of_stepPhase {t : State} (cid : U16) (hb : s.phase ≠ .idle) (h : stepPhase s = .next t) :
    exec (.resetOne cid) s = .next t ∧ exec .resetAll s = .next t ∧ exec .prepareHandoff s = .next t := by
  simp only [exec_of_busy _ hb, h, and_self]

/-- The four that a reset clears, listed in the order of 41_reset_engine.md R173. -/
theorem getElem?_resetAttrs (c : Config) (j : Fin 4) :
    [c.attrConnectionState, c.attrLocalBufferSpace, c.attrPeerBufferSpace, c.attrCreditsToSend][j.val]? =
      some (c.resetAttr j) :=
  match j with
  | 0 | 1 | 2 | 3 => rfl

end Sys2Proof.Machine

open Sys2Proof Sys2Proof.Machine

/-- Settles O13: the poll of RS_WAIT_TXQ. -/
theorem queuePolled : Obligations.QueuePolled := by
  rintro s _ id cid w hp hid ha rfl
  exact exec_resets_of_stepPhase cid (by simp [hp]) (stepPhase_of_rsWaitTxq hp hid ha)

/-- Settles O14: the write of RS_TX_ASSERT. -/
theorem transmitStrobeAsserted : Obligations.TransmitStrobeAsserted := by
  rintro s _ id cid hp hid rfl
  exact exec_resets_of_stepPhase cid (by simp [hp]) (stepPhase_of_rsTxAssert hp hid)

/-- Settles O15: the listed one of the four is that of the model, and RS_ATTR_3 is the last one. -/
theorem attributeCleared : Obligations.AttributeCleared := by
  rintro s _ id cid j attr rc hp hid hattr ha rfl
  obtain rfl : s.cfg.resetAttr j = attr := Option.some.inj ((getElem?_resetAttrs s.cfg j).symm.trans hattr)
  have hlast : j = 3 ↔ ¬ j.val < 3 := by omega
  refine exec_resets_of_stepPhase cid (by simp [hp]) ((stepPhase_of_rsAttr hp hid ha).trans ?_)
  simp only [hlast, ite_not]

/-- Settles O16: the failed write of RS_ATTR_j, with `complete`. -/
theorem attributeFailureAborts : Obligations.AttributeFailureAborts := by
  rintro s _ id cid j rc st hp hid hst ha rfl
  exact exec_resets_of_stepPhase cid (by simp [hp]) (stepPhase_of_rsAttr_failed hp hid hst ha)

/-- Settles O17: the write of RS_RX_ASSERT. -/
theorem receiveStrobeAsserted : Obligations.ReceiveStrobeAsserted := by
  rintro s _ id cid hp hid rfl
  exact exec_resets_of_stepPhase cid (by simp [hp]) (stepPhase_of_rsRxAssert hp hid)

/-- Settles O18: the write of RS_TX_DEASSERT. -/
theorem transmitStrobeDeasserted : Obligations.TransmitStrobeDeasserted := by
  rintro s _ id cid hp hid rfl
  exact exec_resets_of_stepPhase cid (by simp [hp]) (stepPhase_of_rsTxDeassert hp hid)

/-- Settles O19: the write of RS_RX_DEASSERT, with `complete`. -/
theorem resetOneCompletes : Obligations.ResetOneCompletes := by
  intro s id cid rc st hp hid hop hrc hst
  rw [exec_of_busy _ (by simp [hp])]
  exact stepPhase_of_rsRxDeassert_resetOne hp hid hop hrc hst

/-- Settles O20: the two cases of the advance. -/
theorem resetAllAdvances : Obligations.ResetAllAdvances := by
  rintro s _ id op k rc st hp hid hop hadvances hk hrc hst rfl
  have hb : s.phase ≠ .idle := by simp [hp]
  rw [exec_of_busy _ hb, exec_of_busy _ hb]
  by_cases hmore : (k + 1).toNat < s.cfg.cportMax
  · have hstep := stepPhase_of_rsRxDeassert_advances hp hid hop hadvances hk hmore
    exact ⟨_, hstep, hstep, by rw [if_pos hmore]⟩
  · have hstep := stepPhase_of_rsRxDeassert_ends hp hid hop hadvances hk (not_lt.1 hmore) hrc hst
    exact ⟨_, hstep, hstep, by rw [if_neg hmore]⟩

end

section
/-! Runs of several steps without a reset event (70_reset_and_hazards.md R352), and runs within one reset sequence
(41_reset_engine.md R171 to R177). -/

namespace Sys2Proof.Machine

open Sys2Proof

theorem runSteps_add (m n : Nat) (s : State) : runSteps (m + n) s = andThen (runSteps m s) (runSteps n) := by
  induction m generalizing s with
  | zero => rw [Nat.zero_add]; rfl
  | succ m ih =>
    rw [Nat.succ_add, runSteps, runSteps, andThen_assoc]
    exact congrArg (andThen (step s)) (funext ih)

theorem runSteps_one (s : State) : runSteps 1 s = step s := by
  rw [runSteps]
  cases step s <;> rfl

/-- A step of a running command, where no reset level is listed. -/
theorem step_of_running {s : State} (hb : s.phase ≠ .idle) (hr : s.resetIn = []) : step s = stepPhase s := by
  rw [step_of_busy hb (by simp [hr]), hr, List.tail_nil, ← hr]

/-- The accept step of a command that passes the checks, where no reset level is listed. -/
theorem step_of_accepted {s : State} {i : Instr} {rest : List Request} (hi : s.phase = .idle)
    (hr : s.resetIn = []) (hq : s.requests = encode i :: rest) (hw : i.wellFormed = true)
    (hc : passesChecks s.cfg i = true) : step s = .next ({ s with requests := rest }.started i) := by
  rw [step_of_idle hi (by simp [hr]) hq, acceptRequest_of_ok (decode_encode i), hr, List.tail_nil, ← hr,
    exec_of_idle (by exact hi) hw, if_pos (by exact hc)]
  rfl

/-- `n` steps of a running command lead from `s` to `t`: they append the records `es`, leave the answers `more`, and
change neither the command and its configuration nor the inputs that they do not use. -/
structure Runs (n : Nat) (es : List Event) (more : List Answer) (s t : State) : Prop where
  steps : runSteps n s = .next t
  history : t.history = s.history ++ es
  answers : t.answers = more
  cfg : t.cfg = s.cfg
  cmdOp : t.cmdOp = s.cmdOp
  requests : t.requests = s.requests
  resetIn : t.resetIn = s.resetIn

namespace Runs

variable {m n : Nat} {es fs : List Event} {mid more : List Answer} {s t u : State}

theorem nil (ha : s.answers = more) : Runs 0 [] more s s :=
  ⟨rfl, (List.append_nil _).symm, ha, rfl, rfl, rfl, rfl⟩

theorem trans (hsu : Runs m es mid s u) (hut : Runs n fs more u t) : Runs (m + n) (es ++ fs) more s t where
  steps := by rw [runSteps_add, hsu.steps, andThen_next, hut.steps]
  history := by rw [hut.history, hsu.history, List.append_assoc]
  answers := hut.answers
  cfg := hut.cfg.trans hsu.cfg
  cmdOp := hut.cmdOp.trans hsu.cmdOp
  requests := hut.requests.trans hsu.requests
  resetIn := hut.resetIn.trans hsu.resetIn

/-- One step of a running command is a run. -/
theorem of_stepPhase (hb : s.phase ≠ .idle) (hr : s.resetIn = []) (h : stepPhase s = .next t)
    (history : t.history = s.history ++ es := by rfl) (answers : t.answers = more := by rfl)
    (resetIn : t.resetIn = s.resetIn := by rfl) : Runs 1 es more s t where
  steps := by rw [runSteps_one, step_of_running hb hr, h]
  history := history
  answers := answers
  cfg := (stepPhase_keepsCommand h).cfg
  cmdOp := (stepPhase_keepsCommand h).cmdOp
  requests := requests_of_blind stepPhase_blind h
  resetIn := resetIn

end Runs

/-- A run within the reset sequence of one id: it changes none of RS_ID, K, the lifecycles and DONE. -/
structure RunsWithin (n : Nat) (es : List Event) (more : List Answer) (s t : State) : Prop
    extends Runs n es more s t where
  rsId : t.rsId = s.rsId := by rfl
  k : t.k = s.k := by rfl
  life : t.life = s.life := by rfl
  done : t.done = s.done := by rfl

theorem RunsWithin.trans {m n : Nat} {es fs : List Event} {mid more : List Answer} {s t u : State}
    (hsu : RunsWithin m es mid s u) (hut : RunsWithin n fs more u t) :
    RunsWithin (m + n) (es ++ fs) more s t where
  toRuns := hsu.toRuns.trans hut.toRuns
  rsId := hut.rsId.trans hsu.rsId
  k := hut.k.trans hsu.k
  life := hut.life.trans hsu.life
  done := hut.done.trans hsu.done

theorem answerTo_of_cons {s : State} {q : Txn} {a : Answer} {more : List Answer} (ha : s.answers = a :: more) :
    s.answerTo q = a := by
  rw [State.answerTo, ha]

section

variable {s : State} {id : U16} {more : List Answer}

/-! ### One transaction of the sequence -/

theorem runs_poll {w : U32} (hp : s.phase = .rsWaitTxq) (hid : s.rsId = some id) (hr : s.resetIn = [])
    (ha : s.answers = .word w :: more) :
    ∃ t, RunsWithin 1 [⟨.memRead32 (s.cfg.txqeAddr id), .word w⟩] more s t ∧
      t.phase = if w &&& txqeMask id ≠ 0 then .rsTxAssert else .rsWaitTxq :=
  ⟨_, { toRuns := .of_stepPhase (by simp [hp]) hr (stepPhase_of_rsWaitTxq hp hid (answerTo_of_cons ha))
          (answers := congrArg List.tail ha) }, rfl⟩

theorem runs_txAssert (hp : s.phase = .rsTxAssert) (hid : s.rsId = some id) (hr : s.resetIn = []) :
    ∃ t, RunsWithin 1 [⟨.memWrite32 (s.cfg.txResetAddr id) s.cfg.txResetWord, .nothing⟩] s.answers s t ∧
      t.phase = .rsAttr 0 :=
  ⟨_, { toRuns := .of_stepPhase (by simp [hp]) hr (stepPhase_of_rsTxAssert hp hid) }, rfl⟩

theorem runs_attr {j : Fin 4} {rc : U32} (hp : s.phase = .rsAttr j) (hid : s.rsId = some id)
    (hr : s.resetIn = []) (ha : s.answers = .attrWritten rc 0 :: more) :
    ∃ t, RunsWithin 1 [⟨.attrWrite (s.cfg.resetAttr j) 0 id false, .attrWritten rc 0⟩] more s t ∧
      t.phase = (if j = 3 then .rsRxAssert else .rsAttr (j + 1)) ∧ t.lastAttrRc = some rc ∧
      t.lastAttrSt = some 0 :=
  ⟨_, { toRuns := .of_stepPhase (by simp [hp]) hr (stepPhase_of_rsAttr hp hid (answerTo_of_cons ha))
          (answers := congrArg List.tail ha) }, rfl, rfl, rfl⟩

/-- The strobe writes after the last AttrWrite leave its answers in LAST_ATTR_RC and LAST_ATTR_ST. -/
theorem runs_rxAssert (hp : s.phase = .rsRxAssert) (hid : s.rsId = some id) (hr : s.resetIn = []) :
    ∃ t, RunsWithin 1 [⟨.memWrite32 (s.cfg.rxResetAddr id) s.cfg.rxResetWord, .nothing⟩] s.answers s t ∧
      t.phase = .rsTxDeassert ∧ t.lastAttrRc = s.lastAttrRc ∧ t.lastAttrSt = s.lastAttrSt :=
  ⟨_, { toRuns := .of_stepPhase (by simp [hp]) hr (stepPhase_of_rsRxAssert hp hid) }, rfl, rfl, rfl⟩

theorem runs_txDeassert (hp : s.phase = .rsTxDeassert) (hid : s.rsId = some id) (hr : s.resetIn = []) :
    ∃ t, RunsWithin 1 [⟨.memWrite32 (s.cfg.txResetAddr id) 0, .nothing⟩] s.answers s t ∧
      t.phase = .rsRxDeassert ∧ t.lastAttrRc = s.lastAttrRc ∧ t.lastAttrSt = s.lastAttrSt :=
  ⟨_, { toRuns := .of_stepPhase (by simp [hp]) hr (stepPhase_of_rsTxDeassert hp hid) }, rfl, rfl, rfl⟩

/-! ### The queue-empty wait (41_reset_engine.md R171) -/

/-- Any number of polls that read the bit clear. -/
theorem runs_clear_polls {ws : List U32} (hclear : ∀ v ∈ ws, v &&& txqeMask id = 0) (hp : s.phase = .rsWaitTxq)
    (hid : s.rsId = some id) (hr : s.resetIn = []) (ha : s.answers = ws.map .word ++ more) :
    ∃ t, RunsWithin ws.length (ws.map fun v => ⟨.memRead32 (s.cfg.txqeAddr id), .word v⟩) more s t ∧
      t.phase = .rsWaitTxq := by
  induction ws generalizing s with
  | nil => exact ⟨s, { toRuns := .nil ha }, hp⟩
  | cons w ws ih =>
    obtain ⟨hw, hws⟩ := List.forall_mem_cons.1 hclear
    obtain ⟨u, hu, hup⟩ := runs_poll hp hid hr ha
    rw [if_neg (not_not.2 hw)] at hup
    obtain ⟨t, ht, htp⟩ := ih hws hup (hu.rsId.trans hid) (hu.resetIn.trans hr) hu.answers
    rw [hu.cfg] at ht
    have run := hu.trans ht
    rw [Nat.add_comm] at run
    exact ⟨t, run, htp⟩

/-! ### The four AttrWrites (41_reset_engine.md R173) -/

theorem getElem?_resetAnswers (w : U32) (rc : Fin 4 → U32) (j : Fin 4) :
    (resetAnswers w rc)[1 + j.val]? = some (.attrWritten (rc j) 0) :=
  match j with
  | 0 | 1 | 2 | 3 => rfl

theorem getElem?_resetRecords (c : Config) (w : U32) (rc : Fin 4 → U32) (j : Fin 4) :
    (resetRecords c id w rc)[2 + j.val]? =
      some ⟨.attrWrite (c.resetAttr j) 0 id false, .attrWritten (rc j) 0⟩ :=
  match j with
  | 0 | 1 | 2 | 3 => rfl

/-- The sequence up to AttrWrite number `j`, whose queue is empty at the first poll. -/
theorem runs_to_attr {w : U32} {rc : Fin 4 → U32} (j : Fin 4) (hset : w &&& txqeMask id ≠ 0)
    (hp : s.phase = .rsWaitTxq) (hid : s.rsId = some id) (hr : s.resetIn = [])
    (ha : s.answers = (resetAnswers w rc).take (1 + j.val) ++ more) :
    ∃ t, RunsWithin (2 + j.val) ((resetRecords s.cfg id w rc).take (2 + j.val)) more s t ∧
      t.phase = .rsAttr j := by
  induction j using Fin.induction generalizing more with
  | zero =>
    obtain ⟨u, hu, hup⟩ := runs_poll hp hid hr ha
    rw [if_pos hset] at hup
    obtain ⟨t, ht, htp⟩ := runs_txAssert hup (hu.rsId.trans hid) (hu.resetIn.trans hr)
    rw [hu.cfg, hu.answers] at ht
    exact ⟨t, hu.trans ht, htp⟩
  | succ j ih =>
    rw [Fin.val_succ, ← Nat.add_assoc, List.take_add_one, ← Fin.val_castSucc, getElem?_resetAnswers,
      List.append_assoc] at ha
    obtain ⟨u, hu, hup⟩ := ih ha
    obtain ⟨t, ht, htp, -, -⟩ := runs_attr hup (hu.rsId.trans hid) (hu.resetIn.trans hr) hu.answers
    rw [hu.cfg] at ht
    have notLast : j.castSucc ≠ 3 := (Fin.castSucc_lt_last j).ne
    rw [if_neg notLast, Fin.coeSucc_eq_succ] at htp
    refine ⟨t, ?_, htp⟩
    rw [Fin.val_succ, ← Nat.add_assoc, List.take_add_one, ← Fin.val_castSucc, getElem?_resetRecords]
    exact hu.trans ht

/-- The sequence up to its last transaction, whose queue is empty at the first poll. -/
theorem runs_to_rxDeassert {w : U32} {rc : Fin 4 → U32} (hset : w &&& txqeMask id ≠ 0)
    (hp : s.phase = .rsWaitTxq) (hid : s.rsId = some id) (hr : s.resetIn = [])
    (ha : s.answers = resetAnswers w rc ++ more) :
    ∃ t, RunsWithin 8 ((resetRecords s.cfg id w rc).take 8) more s t ∧ t.phase = .rsRxDeassert ∧
      t.lastAttrRc = some (rc 3) ∧ t.lastAttrSt = some 0 := by
  obtain ⟨u, hu, hup⟩ := runs_to_attr (more := .attrWritten (rc 3) 0 :: more) 3 hset hp hid hr ha
  obtain ⟨v, hv, hvp, hvrc, hvst⟩ := runs_attr hup (hu.rsId.trans hid) (hu.resetIn.trans hr) hu.answers
  have huv := hu.trans hv
  obtain ⟨x, hx, hxp, hxrc, hxst⟩ := runs_rxAssert hvp (huv.rsId.trans hid) (huv.resetIn.trans hr)
  have hux := huv.trans hx
  obtain ⟨t, ht, htp, htrc, htst⟩ := runs_txDeassert hxp (hux.rsId.trans hid) (hux.resetIn.trans hr)
  have run := hux.trans ht
  rw [hux.cfg, huv.cfg, hu.cfg, hux.answers, huv.answers] at run
  exact ⟨t, run, htp, htrc.trans (hxrc.trans hvrc), htst.trans (hxst.trans hvst)⟩

end

end Sys2Proof.Machine

open Sys2Proof Sys2Proof.Machine

/-- Settles O56: the polls are a run within the sequence, by induction on their number. -/
theorem queueWaitHasNoBound : Obligations.QueueWaitHasNoBound := by
  intro s id ws more hp hid hr hclear ha
  obtain ⟨t, ht, htp⟩ := runs_clear_polls hclear hp hid hr ha
  exact ⟨t, ht.steps, htp, ht.done, ht.rsId.trans hid, ht.answers, ht.history⟩

end

section
/-! RESET_ONE and RESET_ALL as whole runs (41_reset_engine.md R170, R180 to R183, 70_reset_and_hazards.md R352). -/

namespace Sys2Proof.Machine

open Sys2Proof

/-- The run of a command goes on from the state after its accept step. -/
theorem runSteps_of_accepted {s : State} {i : Instr} {rest : List Request} (n : Nat) (hi : s.phase = .idle)
    (hr : s.resetIn = []) (hq : s.requests = encode i :: rest) (hw : i.wellFormed = true)
    (hc : passesChecks s.cfg i = true) :
    runSteps (1 + n) s = runSteps n ({ s with requests := rest }.started i) := by
  rw [runSteps_add, runSteps_one, step_of_accepted hi hr hq hw hc, andThen_next]

/-- The last transaction of a reset sequence ends the list of its records. -/
theorem take_resetRecords_append (c : Config) (id : U16) (w : U32) (rc : Fin 4 → U32) :
    (resetRecords c id w rc).take 8 ++ [⟨.memWrite32 (c.rxResetAddr id) 0, .nothing⟩] =
      resetRecords c id w rc := rfl

theorem toNat_ofNat_of_lt {v n : Nat} (h : n < 2 ^ v) : (BitVec.ofNat v n).toNat = n := by
  rw [BitVec.toNat_ofNat, Nat.mod_eq_of_lt h]

/-- RESET_ALL is about to reset the id `n`: K and RS_ID hold it (41_reset_engine.md R180, R181). -/
structure AtId (n : Nat) (s : State) : Prop where
  phase : s.phase = .rsWaitTxq
  cmdOp : s.cmdOp = some 2#4
  rsId : s.rsId = some (BitVec.ofNat 16 n)
  k : s.k = some (BitVec.ofNat 32 n)
  resetIn : s.resetIn = []

theorem atId_started {s : State} (hr : s.resetIn = []) : AtId 0 (s.started .resetAll) :=
  ⟨rfl, started_cmdOp s .resetAll, rfl, rfl, hr⟩

section

variable {s : State} {more : List Answer}

/-- The reset of an id below the last one leads to the next id (41_reset_engine.md R181). -/
theorem runs_id_advances {n : Nat} {w : U32} {rc : Fin 4 → U32} (hs : AtId n s)
    (hn : n + 1 < s.cfg.cportMax) (hmax : s.cfg.cportMax ≤ 64) (hset : w &&& txqeMask (BitVec.ofNat 16 n) ≠ 0)
    (ha : s.answers = resetAnswers w rc ++ more) :
    ∃ t, Runs 9 (resetRecords s.cfg (BitVec.ofNat 16 n) w rc) more s t ∧ AtId (n + 1) t ∧
      t.life = s.life.set n .resetDone := by
  obtain ⟨u, hu, hup, -, -⟩ := runs_to_rxDeassert hset hs.phase hs.rsId hs.resetIn ha
  have hr := hu.resetIn.trans hs.resetIn
  have hop := hu.cmdOp.trans hs.cmdOp
  have next : BitVec.ofNat 32 n + 1 = BitVec.ofNat 32 (n + 1) := BitVec.ofNat_add_ofNat n 1
  have nextId : (BitVec.ofNat 32 (n + 1)).setWidth 16 = BitVec.ofNat 16 (n + 1) :=
    BitVec.setWidth_ofNat_of_le (by decide) _
  have hmore : (BitVec.ofNat 32 n + 1).toNat < u.cfg.cportMax := by
    rw [next, toNat_ofNat_of_lt (by omega), hu.cfg]
    exact hn
  have hstep := stepPhase_of_rsRxDeassert_advances hup (hu.rsId.trans hs.rsId) hop (.inl rfl)
    (hu.k.trans hs.k) hmore
  have run := hu.toRuns.trans (.of_stepPhase (by simp [hup]) hr hstep)
  rw [hu.cfg, take_resetRecords_append, hu.answers] at run
  refine ⟨_, run, ⟨rfl, hop, ?_, congrArg some next, hr⟩, ?_⟩
  · exact congrArg some ((congrArg (BitVec.setWidth 16) next).trans nextId)
  · have hid : (BitVec.ofNat 16 n).toNat = n := toNat_ofNat_of_lt (by omega)
    exact congrArg₂ (List.set · · .resetDone) hu.life hid

/-- The reset of the last id ends the command (41_reset_engine.md R183). -/
theorem runs_id_ends {n : Nat} {w : U32} {rc : Fin 4 → U32} (hs : AtId n s)
    (hn : s.cfg.cportMax = n + 1) (hmax : s.cfg.cportMax ≤ 64) (hset : w &&& txqeMask (BitVec.ofNat 16 n) ≠ 0)
    (ha : s.answers = resetAnswers w rc ++ more) :
    ∃ t, Runs 9 (resetRecords s.cfg (BitVec.ofNat 16 n) w rc) more s t ∧ t.phase = .idle ∧ t.done = true ∧
      t.rspKind = 0 ∧ t.rspValue = 0 ∧ t.rspAttrRc = rc 3 ∧ t.rspAttrStatus = 0 ∧ t.rspFailId = 0 ∧
      t.life = s.life.set n .resetDone := by
  obtain ⟨u, hu, hup, hrc, hst⟩ := runs_to_rxDeassert hset hs.phase hs.rsId hs.resetIn ha
  have hr := hu.resetIn.trans hs.resetIn
  have next : BitVec.ofNat 32 n + 1 = BitVec.ofNat 32 (n + 1) := BitVec.ofNat_add_ofNat n 1
  have hlast : u.cfg.cportMax ≤ (BitVec.ofNat 32 n + 1).toNat := by
    rw [next, toNat_ofNat_of_lt (by omega), hu.cfg, hn]
  have hstep := stepPhase_of_rsRxDeassert_ends hup (hu.rsId.trans hs.rsId) (hu.cmdOp.trans hs.cmdOp)
    (.inl rfl) (hu.k.trans hs.k) hlast hrc hst
  have run := hu.toRuns.trans (.of_stepPhase (by simp [hup]) hr hstep)
  rw [hu.cfg, take_resetRecords_append, hu.answers] at run
  have hid : (BitVec.ofNat 16 n).toNat = n := toNat_ofNat_of_lt (by omega)
  exact ⟨_, run, rfl, rfl, rfl, rfl, rfl, rfl, rfl, congrArg₂ (List.set · · .resetDone) hu.life hid⟩

/-- An AttrWrite that fails ends the command at once (41_reset_engine.md R174). -/
theorem runs_id_fails {id : U16} {w : U32} {rc : Fin 4 → U32} {failRc failSt : U32} (j : Fin 4)
    (hset : w &&& txqeMask id ≠ 0) (hfail : failSt ≠ 0) (hp : s.phase = .rsWaitTxq) (hid : s.rsId = some id)
    (hr : s.resetIn = []) (ha : s.answers = failedResetAnswers w rc j failRc failSt ++ more) :
    ∃ t, Runs (2 + j.val + 1) (failedResetRecords s.cfg id w rc j failRc failSt) more s t ∧
      t.phase = .idle ∧ t.done = true ∧ t.rspKind = 2 ∧ t.rspValue = 0 ∧ t.rspAttrRc = failRc ∧
      t.rspAttrStatus = failSt ∧ t.rspFailId = id ∧ t.life = s.life.set id.toNat .halfReset := by
  rw [failedResetAnswers, List.append_assoc] at ha
  obtain ⟨u, hu, hup⟩ := runs_to_attr j hset hp hid hr ha
  have hstep := stepPhase_of_rsAttr_failed hup (hu.rsId.trans hid) hfail (answerTo_of_cons hu.answers)
  have run := hu.toRuns.trans (.of_stepPhase (by simp [hup]) (hu.resetIn.trans hr) hstep
    (answers := congrArg List.tail hu.answers))
  rw [hu.cfg] at run
  exact ⟨_, run, rfl, rfl, rfl, rfl, rfl, rfl, rfl, congrArg (List.set · id.toNat .halfReset) hu.life⟩

/-- The next id of a list whose first `n` entries are done. -/
theorem set_replicate_append_drop {α : Type} {l : List α} {n : Nat} (a b : α) (h : n < l.length) :
    (List.replicate n a ++ l.drop n).set n b = List.replicate n a ++ [b] ++ l.drop (n + 1) := by
  rw [List.set_append_right _ _ (by simp), List.length_replicate, Nat.sub_self,
    List.drop_eq_getElem_cons h, List.set_cons_zero, List.append_assoc, List.singleton_append]

/-- RESET_ALL resets the ids below `n` in ascending order (41_reset_engine.md R180). -/
theorem runs_ids {n : Nat} {w : Nat → U32} {rc : Nat → Fin 4 → U32} (hs : AtId 0 s)
    (hn : n < s.cfg.cportMax) (hmax : s.cfg.cportMax ≤ 64) (hlife : s.life.length = s.cfg.cportMax)
    (hset : ∀ i < n, w i &&& txqeMask (BitVec.ofNat 16 i) ≠ 0)
    (ha : s.answers = (List.range n).flatMap (fun i => resetAnswers (w i) (rc i)) ++ more) :
    ∃ t, Runs (9 * n)
        ((List.range n).flatMap fun i => resetRecords s.cfg (BitVec.ofNat 16 i) (w i) (rc i)) more s t ∧
      AtId n t ∧ t.life = List.replicate n .resetDone ++ s.life.drop n := by
  induction n generalizing more with
  | zero => exact ⟨s, .nil ha, hs, rfl⟩
  | succ n ih =>
    simp only [List.range_succ, List.flatMap_append, List.flatMap_singleton, List.append_assoc] at ha
    obtain ⟨u, hu, hun, hul⟩ := ih (by omega) (fun i hi => hset i (by omega)) ha
    obtain ⟨t, ht, htn, htl⟩ := runs_id_advances hun (by rw [hu.cfg]; exact hn) (by rw [hu.cfg]; exact hmax)
      (hset n (by omega)) hu.answers
    rw [hu.cfg] at ht
    refine ⟨t, ?_, htn, ?_⟩
    · simp only [List.range_succ, List.flatMap_append, List.flatMap_singleton]
      exact hu.trans ht
    · rw [htl, hul, set_replicate_append_drop _ _ (by omega), ← List.replicate_succ']

end

end Sys2Proof.Machine

open Sys2Proof Sys2Proof.Machine

/-- Settles O51: the polls, the sequence after them, and its last transaction, which completes RESET_ONE. -/
theorem resetOneRunsToCompletion : Obligations.ResetOneRunsToCompletion := by
  intro s id ws w rc more rest hi hr hq hrange hclear hset ha
  have hc : passesChecks s.cfg (.resetOne id) = true := by
    simp [passesChecks, Instr.takesId, Instr.id, Instr.len, hrange]
  rw [runSteps_of_accepted _ hi hr hq rfl hc]
  have hop := started_cmdOp { s with requests := rest } (.resetOne id)
  obtain ⟨u, hu, hup⟩ := runs_clear_polls (s := { s with requests := rest }.started (.resetOne id))
    hclear rfl rfl hr (ha.trans (List.append_assoc ..))
  obtain ⟨v, hv, hvp, hrc, hst⟩ := runs_to_rxDeassert hset hup hu.rsId (hu.resetIn.trans hr) hu.answers
  have huv := hu.trans hv
  have hstep := stepPhase_of_rsRxDeassert_resetOne hvp huv.rsId (huv.cmdOp.trans hop) hrc hst
  have run := huv.toRuns.trans (.of_stepPhase (by simp [hvp]) (huv.resetIn.trans hr) hstep)
  rw [List.append_assoc, huv.cfg, hu.cfg, take_resetRecords_append, huv.answers] at run
  exact ⟨_, run.steps, rfl, rfl, rfl, rfl, rfl, rfl, rfl, run.requests, run.answers,
    congrArg (List.set · id.toNat .resetDone) huv.life, run.history.trans (List.append_assoc ..).symm⟩

/-- Settles O52: the ids below the last one, then the last one, which ends the command. -/
theorem resetAllRunsToCompletion : Obligations.ResetAllRunsToCompletion := by
  intro s w rc more rest hinv hi hr hq hset ha
  obtain ⟨hwf, hlife, -, -, -⟩ := inv_iff.1 hinv
  obtain ⟨hpos, hmax⟩ := cportMax_of_wf hwf
  obtain ⟨m, hm⟩ := Nat.exists_eq_add_of_le' hpos
  rw [runSteps_of_accepted _ hi hr hq rfl (passesChecks_of_noOperands rfl rfl)]
  simp only [hm, List.range_succ, List.flatMap_append, List.flatMap_singleton, List.append_assoc] at ha ⊢
  obtain ⟨u, hu, hum, hul⟩ := runs_ids (s := { s with requests := rest }.started .resetAll)
    (atId_started (by exact hr)) (show m < s.cfg.cportMax by omega) hmax hlife (fun i hi => hset i (by omega)) ha
  obtain ⟨t, ht, hti, htd, htk, htv, htrc, htst, htf, htl⟩ :=
    runs_id_ends hum (by rw [hu.cfg]; exact hm) (by rw [hu.cfg]; exact hmax) (hset m (by omega)) hu.answers
  rw [hu.cfg] at ht
  have run := hu.trans ht
  refine ⟨t, run.steps, hti, htd, htk, htv, htrc, htst, htf, run.requests, run.answers, ?_, run.history⟩
  rw [htl, hul, set_replicate_append_drop _ _ (by exact hlife ▸ (by omega)), ← List.replicate_succ',
    List.drop_of_length_le (by exact (hlife.trans hm).le), List.append_nil]

/-- Settles O53: the ids below `k`, then the sequence of `k` up to the AttrWrite that fails. -/
theorem resetAllStopsAtFirstFailure : Obligations.ResetAllStopsAtFirstFailure := by
  intro s k j w rc failRc failSt more rest hinv hi hr hq hk hfail hset ha
  obtain ⟨hwf, hlife, -, -, -⟩ := inv_iff.1 hinv
  have hmax := (cportMax_of_wf hwf).2
  rw [runSteps_of_accepted _ hi hr hq rfl (passesChecks_of_noOperands rfl rfl)]
  rw [List.append_assoc] at ha
  obtain ⟨u, hu, huk, hul⟩ := runs_ids (s := { s with requests := rest }.started .resetAll)
    (atId_started (by exact hr)) hk hmax hlife (fun i hi => hset i hi.le) ha
  obtain ⟨t, ht, hti, htd, htk, htv, htrc, htst, htf, htl⟩ :=
    runs_id_fails j (hset k le_rfl) hfail huk.phase huk.rsId huk.resetIn hu.answers
  rw [hu.cfg] at ht
  have run := hu.trans ht
  have count : 1 + 2 + j.val = 2 + j.val + 1 := by omega
  have hid : (BitVec.ofNat 16 k).toNat = k := toNat_ofNat_of_lt (by omega)
  refine ⟨t, count ▸ run.steps, hti, htd, htk, htv, htrc, htst, htf, run.requests, run.answers, ?_,
    run.history.trans (List.append_assoc ..).symm⟩
  rw [htl, hul, hid, set_replicate_append_drop _ _ (by exact hlife ▸ hk)]
  rfl

end

section
/-! The transaction of each phase of the arm sequence and of RECEIVE as an equation: from the registers and the answer
to the next state (42_rx_engine.md R200 to R213). -/

namespace Sys2Proof.Machine

open Sys2Proof

variable {s : State} {id : U16}

theorem stepPhase_of_armAddr (hp : s.phase = .armAddr) (hid : s.cmdId = some id) :
    stepPhase s = .next { s with
      history := s.history ++ [⟨.memWrite32 (s.cfg.rxBufAddrReg id) (s.cfg.rxBuf id), .nothing⟩]
      phase := .armPause } := by
  have hphase : stepPhase s = armAddr s := by rw [stepPhase, hp]
  exact hphase.trans (armAddr_eq_next.2 ⟨id, hid, rfl⟩)

/-- The end of the arm sequence, by CMD_OP and CMD_HANDLER (42_rx_engine.md R201). -/
theorem stepPhase_of_armPause {op : BitVec 4} {value rc st : U32} (hp : s.phase = .armPause)
    (hid : s.cmdId = some id) (hop : s.cmdOp = some op)
    (hvalue : op = 3#4 ∧ value = 0#32 ∨ op = 4#4 ∧ s.cmdHandler = some false ∧ value = 0#32 ∨
      op = 4#4 ∧ s.cmdHandler = some true ∧ s.rxRc = some value)
    (hrc : s.lastAttrRc = some rc) (hst : s.lastAttrSt = some st) :
    stepPhase s = .next { s with
      history := s.history ++ [⟨.memWrite32 (s.cfg.rxPauseReg id) s.cfg.rxPauseValue, .nothing⟩]
      life := s.life.set id.toNat .armed
      rspKind := 0
      rspValue := value
      rspAttrRc := rc
      rspAttrStatus := st
      rspFailId := 0
      done := true
      phase := .idle } := by
  have hphase : stepPhase s = armPause s := by rw [stepPhase, hp]
  exact hphase.trans (armPause_eq_next.2 ⟨id, op, hid, hop, value, hvalue, complete_of_held hrc hst⟩)

theorem stepPhase_of_rxPollEom {w : U32} (hp : s.phase = .rxPollEom) (hid : s.cmdId = some id)
    (ha : s.answerTo (.memRead32 (s.cfg.eomWordAddr id)) = .word w) :
    stepPhase s = .next { s with
      history := s.history ++ [⟨.memRead32 (s.cfg.eomWordAddr id), .word w⟩]
      answers := s.answers.tail
      draws := if s.answers.isEmpty then s.draws + 1 else s.draws
      rxEomw := some w
      phase := .rxPollEot } := by
  have hphase : stepPhase s = rxPollEom s := by rw [stepPhase, hp]
  refine hphase.trans (rxPollEom_eq_next.2 ⟨id, hid, .inr ⟨w, ha, ?_⟩⟩)
  rw [asked_of_answerTo ha]

theorem memRead32_of_word {a w : U32} {use : U32 → State → Res State} (ha : s.answerTo (.memRead32 a) = .word w) :
    memRead32 a s use = use w (s.asked (.memRead32 a)) := by
  rw [memRead32, ask_of_answered (by simp [ha]), ha]

/-- The second read of a poll cycle, and what is left to do in its step (42_rx_engine.md R208). -/
theorem stepPhase_of_rxPollEot {eomw w : U32} {blocking : Bool} (hp : s.phase = .rxPollEot)
    (hid : s.cmdId = some id) (hb : s.cmdBlocking = some blocking) (he : s.rxEomw = some eomw)
    (ha : s.answerTo (.memRead32 (s.cfg.eotWordAddr id)) = .word w) :
    stepPhase s = classify id eomw w blocking { s with
      history := s.history ++ [⟨.memRead32 (s.cfg.eotWordAddr id), .word w⟩]
      answers := s.answers.tail
      draws := if s.answers.isEmpty then s.draws + 1 else s.draws
      rxEotw := some w } := by
  have hphase : stepPhase s = rxPollEot s := by rw [stepPhase, hp]
  rw [hphase]
  simp only [rxPollEot, hid, hb, he, readReg_some, andThen_next, memRead32_of_word ha, asked_of_answerTo ha]

theorem stepPhase_of_rxCount {w : U32} (hp : s.phase = .rxCount) (hid : s.cmdId = some id)
    (ha : s.answerTo (.memRead32 (s.cfg.rxXferSizeReg id)) = .word w) :
    stepPhase s = .next { s with
      history := s.history ++ [⟨.memRead32 (s.cfg.rxXferSizeReg id), .word w⟩]
      answers := s.answers.tail
      draws := if s.answers.isEmpty then s.draws + 1 else s.draws
      rxCount := some w
      phase := .rxClear } := by
  have hphase : stepPhase s = rxReadCount s := by rw [stepPhase, hp]
  refine hphase.trans (rxReadCount_eq_next.2 ⟨id, hid, .inr ⟨w, ha, ?_⟩⟩)
  rw [asked_of_answerTo ha]

theorem stepPhase_of_rxClear {handler : Bool} (hp : s.phase = .rxClear) (hid : s.cmdId = some id)
    (hh : s.cmdHandler = some handler) :
    stepPhase s = .next { s with
      history := s.history ++ [⟨.memWrite32 (s.cfg.eomWordAddr id) (eomNormalMask id), .nothing⟩]
      phase := if handler then .rxHandler else .armAddr } := by
  have hphase : stepPhase s = rxClear s := by rw [stepPhase, hp]
  exact hphase.trans (rxClear_eq_next.2 ⟨id, handler, hid, hh, rfl⟩)

theorem stepPhase_of_rxHandler {count rc : U32} (hp : s.phase = .rxHandler) (hid : s.cmdId = some id)
    (hcount : s.rxCount = some count)
    (ha : s.answerTo (.handlerCall id (s.cfg.rxBuf id) count) = .handlerReturn rc) :
    stepPhase s = .next { s with
      history := s.history ++ [⟨.handlerCall id (s.cfg.rxBuf id) count, .handlerReturn rc⟩]
      answers := s.answers.tail
      draws := if s.answers.isEmpty then s.draws + 1 else s.draws
      rxRc := some rc
      phase := .armAddr } := by
  have hphase : stepPhase s = rxHandler s := by rw [stepPhase, hp]
  refine hphase.trans (rxHandler_eq_next.2 ⟨id, count, hid, hcount, .inr ⟨rc, ha, ?_⟩⟩)
  rw [asked_of_answerTo ha]

/-! ### The five results of a poll cycle, in the order of 42_rx_engine.md R209 -/

theorem not_bitSet_iff {w mask : U32} : ¬ bitSet w mask = true ↔ w &&& mask = 0 :=
  bitSet_iff.not.trans not_not

section

variable {eomw eotw rc st : U32} {blocking : Bool}

theorem classify_of_errorEom (herror : eomw &&& eomErrorMask id ≠ 0) (hrc : s.lastAttrRc = some rc)
    (hst : s.lastAttrSt = some st) :
    classify id eomw eotw blocking s = .next ((s.setLife id .failedRx).completed .receiveError 0 0 rc st) := by
  rw [classify, if_pos (bitSet_iff.2 herror)]
  exact complete_of_held hrc hst

theorem classify_of_eot (herror : eomw &&& eomErrorMask id = 0) (heot : eotw &&& eotMask id ≠ 0)
    (hrc : s.lastAttrRc = some rc) (hst : s.lastAttrSt = some st) :
    classify id eomw eotw blocking s = .next ((s.setLife id .failedRx).completed .overflow 0 0 rc st) := by
  rw [classify, if_neg (not_bitSet_iff.2 herror), if_pos (bitSet_iff.2 heot)]
  exact complete_of_held hrc hst

theorem classify_of_normalEom (herror : eomw &&& eomErrorMask id = 0) (heot : eotw &&& eotMask id = 0)
    (hnormal : eomw &&& eomNormalMask id ≠ 0) :
    classify id eomw eotw blocking s = .next { s.setLife id .dispatched with phase := .rxCount } := by
  rw [classify, if_neg (not_bitSet_iff.2 herror), if_neg (not_bitSet_iff.2 heot), if_pos (bitSet_iff.2 hnormal)]

theorem classify_of_singlePoll (herror : eomw &&& eomErrorMask id = 0) (heot : eotw &&& eotMask id = 0)
    (hnormal : eomw &&& eomNormalMask id = 0) (hrc : s.lastAttrRc = some rc) (hst : s.lastAttrSt = some st) :
    classify id eomw eotw false s = .next (s.completed .ok 0 0 rc st) := by
  rw [classify, if_neg (not_bitSet_iff.2 herror), if_neg (not_bitSet_iff.2 heot),
    if_neg (not_bitSet_iff.2 hnormal), if_neg Bool.false_ne_true]
  exact complete_of_held hrc hst

theorem classify_of_nextCycle (herror : eomw &&& eomErrorMask id = 0) (heot : eotw &&& eotMask id = 0)
    (hnormal : eomw &&& eomNormalMask id = 0) :
    classify id eomw eotw true s = .next { s with phase := .rxPollEom } := by
  rw [classify, if_neg (not_bitSet_iff.2 herror), if_neg (not_bitSet_iff.2 heot),
    if_neg (not_bitSet_iff.2 hnormal), if_pos rfl]

/-- The two results that do not end the command: the dispatch and the next cycle. -/
theorem classify_of_goesOn (herror : eomw &&& eomErrorMask id = 0) (heot : eotw &&& eotMask id = 0)
    (hgoes : eomw &&& eomNormalMask id ≠ 0 ∨ blocking = true) :
    classify id eomw eotw blocking s = .next { s with
      life := if eomw &&& eomNormalMask id ≠ 0 then s.life.set id.toNat .dispatched else s.life
      phase := if eomw &&& eomNormalMask id ≠ 0 then .rxCount else .rxPollEom } := by
  by_cases hnormal : eomw &&& eomNormalMask id ≠ 0
  · rw [classify_of_normalEom herror heot hnormal, if_pos hnormal, if_pos hnormal]
    rfl
  · obtain rfl := hgoes.resolve_left hnormal
    rw [classify_of_nextCycle herror heot (not_not.1 hnormal), if_neg hnormal, if_neg hnormal]

end

end Sys2Proof.Machine

open Sys2Proof Sys2Proof.Machine

/-- Settles O21: the write of ARM_ADDR, which both commands take from PHASE. -/
theorem receiveBufferRegistered : Obligations.ReceiveBufferRegistered := by
  rintro s _ id cid b h hp hid rfl
  have hstep := stepPhase_of_armAddr hp hid
  have hbusy : s.phase ≠ .idle := by simp [hp]
  exact ⟨(exec_of_busy _ hbusy).trans hstep, (exec_of_busy _ hbusy).trans hstep⟩

/-- Settles O22: the write of ARM_PAUSE, with `complete` and each of the three values. -/
theorem armPauseCompletes : Obligations.ArmPauseCompletes := by
  rintro s _ id cid b h rc st hrc hp hid harc hast rfl
  have hbusy : s.phase ≠ .idle := by simp [hp]
  simp only [exec_of_busy _ hbusy]
  refine ⟨fun hop => ?_, fun hop hh => ?_, fun hop hh hvalue => ?_⟩
  · exact stepPhase_of_armPause hp hid hop (.inl ⟨rfl, rfl⟩) harc hast
  · exact stepPhase_of_armPause hp hid hop (.inr (.inl ⟨rfl, hh, rfl⟩)) harc hast
  · exact stepPhase_of_armPause hp hid hop (.inr (.inr ⟨rfl, hh, hvalue⟩)) harc hast

/-- Settles O23: the first read of a poll cycle. -/
theorem eomWordPolled : Obligations.EomWordPolled := by
  intro s id cid b h w hp hid ha
  rw [exec_of_busy _ (by simp [hp])]
  exact stepPhase_of_rxPollEom hp hid ha

/-- Settles O24: the second read of a poll cycle, then the five results in their order. -/
theorem pollClassified : Obligations.PollClassified := by
  rintro s _ id cid b h blocking eomw w rc st hp hid hb he hrc hst ha rfl
  rw [exec_of_busy _ (by simp [hp]), stepPhase_of_rxPollEot hp hid hb he ha]
  by_cases herror : eomw &&& eomErrorMask id ≠ 0
  · rw [if_pos herror]
    exact classify_of_errorEom herror hrc hst
  rw [if_neg herror]
  by_cases heot : w &&& eotMask id ≠ 0
  · rw [if_pos heot]
    exact classify_of_eot (not_not.1 herror) heot hrc hst
  rw [if_neg heot]
  by_cases hnormal : eomw &&& eomNormalMask id ≠ 0
  · rw [if_pos hnormal]
    exact classify_of_normalEom (not_not.1 herror) (not_not.1 heot) hnormal
  rw [if_neg hnormal]
  cases blocking with
  | false => exact classify_of_singlePoll (not_not.1 herror) (not_not.1 heot) (not_not.1 hnormal) hrc hst
  | true => exact classify_of_nextCycle (not_not.1 herror) (not_not.1 heot) (not_not.1 hnormal)

/-- Settles O25: the read of RX_COUNT. -/
theorem transferCountRead : Obligations.TransferCountRead := by
  intro s id cid b h w hp hid ha
  rw [exec_of_busy _ (by simp [hp])]
  exact stepPhase_of_rxCount hp hid ha

/-- Settles O26: the write of RX_CLEAR. -/
theorem normalEomCleared : Obligations.NormalEomCleared := by
  intro s id cid b h handler hp hid hh
  rw [exec_of_busy _ (by simp [hp])]
  exact stepPhase_of_rxClear hp hid hh

/-- Settles O27: the call of RX_HANDLER. -/
theorem handlerCalled : Obligations.HandlerCalled := by
  intro s id cid b h count rc hp hid hcount ha
  rw [exec_of_busy _ (by simp [hp])]
  exact stepPhase_of_rxHandler hp hid hcount ha

end

section
/-! RECEIVE as runs of several steps: poll cycles (42_rx_engine.md R206 to R210, R216), the dispatch of a frame and the
re-arm (R211 to R214). -/

namespace Sys2Proof.Machine

open Sys2Proof

theorem started_cmdBlocking (s : State) (i : Instr) : (s.started i).cmdBlocking = some i.blocking :=
  congrArg some (blockingBit_encodeWord ..)

theorem started_cmdHandler (s : State) (i : Instr) : (s.started i).cmdHandler = some i.handler :=
  congrArg some (handlerBit_encodeWord ..)

/-- A run within a RECEIVE: it changes none of the operands that RECEIVE reads, the last attribute answers and DONE. -/
structure RunsReceive (n : Nat) (es : List Event) (more : List Answer) (s t : State) : Prop
    extends Runs n es more s t where
  cmdId : t.cmdId = s.cmdId := by rfl
  cmdBlocking : t.cmdBlocking = s.cmdBlocking := by rfl
  cmdHandler : t.cmdHandler = s.cmdHandler := by rfl
  lastAttrRc : t.lastAttrRc = s.lastAttrRc := by rfl
  lastAttrSt : t.lastAttrSt = s.lastAttrSt := by rfl
  done : t.done = s.done := by rfl

theorem RunsReceive.trans {m n : Nat} {es fs : List Event} {mid more : List Answer} {s t u : State}
    (hsu : RunsReceive m es mid s u) (hut : RunsReceive n fs more u t) :
    RunsReceive (m + n) (es ++ fs) more s t where
  toRuns := hsu.toRuns.trans hut.toRuns
  cmdId := hut.cmdId.trans hsu.cmdId
  cmdBlocking := hut.cmdBlocking.trans hsu.cmdBlocking
  cmdHandler := hut.cmdHandler.trans hsu.cmdHandler
  lastAttrRc := hut.lastAttrRc.trans hsu.lastAttrRc
  lastAttrSt := hut.lastAttrSt.trans hsu.lastAttrSt
  done := hut.done.trans hsu.done

/-- The records of one poll cycle that reads the EOM word `w.1` and the EOT word `w.2`. -/
def pollRecords (c : Config) (id : U16) (w : U32 × U32) : List Event :=
  [⟨.memRead32 (c.eomWordAddr id), .word w.1⟩, ⟨.memRead32 (c.eotWordAddr id), .word w.2⟩]

theorem length_flatMap_pollRecords (c : Config) (id : U16) (ws : List (U32 × U32)) :
    (ws.flatMap (pollRecords c id)).length = 2 * ws.length := by
  induction ws with
  | nil => rfl
  | cons w ws ih =>
    have two : (pollRecords c id w).length = 2 := rfl
    rw [List.flatMap_cons, List.length_append, two, ih, List.length_cons]
    omega

section

variable {s : State} {id : U16} {more : List Answer}

/-! ### One poll cycle -/

theorem runs_rxPollEom {w : U32} (hp : s.phase = .rxPollEom) (hid : s.cmdId = some id) (hr : s.resetIn = [])
    (ha : s.answers = .word w :: more) :
    ∃ t, RunsReceive 1 [⟨.memRead32 (s.cfg.eomWordAddr id), .word w⟩] more s t ∧ t.phase = .rxPollEot ∧
      t.rxEomw = some w ∧ t.life = s.life :=
  ⟨_, { toRuns := .of_stepPhase (by simp [hp]) hr (stepPhase_of_rxPollEom hp hid (answerTo_of_cons ha))
          (answers := congrArg List.tail ha) }, rfl, rfl, rfl⟩

/-- A cycle that does not end the command leads to RX_COUNT or to the next cycle. -/
theorem runs_cycle {w : U32 × U32} {blocking : Bool} (herror : w.1 &&& eomErrorMask id = 0)
    (heot : w.2 &&& eotMask id = 0) (hgoes : w.1 &&& eomNormalMask id ≠ 0 ∨ blocking = true)
    (hp : s.phase = .rxPollEom) (hid : s.cmdId = some id) (hb : s.cmdBlocking = some blocking)
    (hr : s.resetIn = []) (ha : s.answers = .word w.1 :: .word w.2 :: more) :
    ∃ t, RunsReceive 2 (pollRecords s.cfg id w) more s t ∧
      t.phase = (if w.1 &&& eomNormalMask id ≠ 0 then .rxCount else .rxPollEom) ∧
      t.life = if w.1 &&& eomNormalMask id ≠ 0 then s.life.set id.toNat .dispatched else s.life := by
  obtain ⟨u, hu, hup, hue, hul⟩ := runs_rxPollEom hp hid hr ha
  have hstep := (stepPhase_of_rxPollEot hup (hu.cmdId.trans hid) (hu.cmdBlocking.trans hb) hue
    (answerTo_of_cons hu.answers)).trans (classify_of_goesOn herror heot hgoes)
  have run := hu.trans { toRuns := .of_stepPhase (by simp [hup]) (hu.resetIn.trans hr) hstep
                           (answers := congrArg List.tail hu.answers) }
  rw [hu.cfg] at run
  exact ⟨_, run, rfl, by rw [← hul]⟩

/-- Any number of cycles of a blocking RECEIVE that see no terminal condition (42_rx_engine.md R216). -/
theorem runs_cycles_repeat {ws : List (U32 × U32)}
    (hclear : ∀ w ∈ ws, w.1 &&& eomErrorMask id = 0 ∧ w.2 &&& eotMask id = 0 ∧ w.1 &&& eomNormalMask id = 0)
    (hp : s.phase = .rxPollEom) (hid : s.cmdId = some id) (hb : s.cmdBlocking = some true)
    (hr : s.resetIn = []) (ha : s.answers = ws.flatMap (fun w => [.word w.1, .word w.2]) ++ more) :
    ∃ t, RunsReceive (2 * ws.length) (ws.flatMap (pollRecords s.cfg id)) more s t ∧ t.phase = .rxPollEom ∧
      t.life = s.life := by
  induction ws generalizing s with
  | nil => exact ⟨s, { toRuns := .nil ha }, hp, rfl⟩
  | cons w ws ih =>
    obtain ⟨⟨herror, heot, hnormal⟩, hws⟩ := List.forall_mem_cons.1 hclear
    obtain ⟨u, hu, hup, hul⟩ := runs_cycle herror heot (.inr rfl) hp hid hb hr ha
    rw [if_neg (not_not.2 hnormal)] at hup hul
    obtain ⟨t, ht, htp, htl⟩ :=
      ih hws hup (hu.cmdId.trans hid) (hu.cmdBlocking.trans hb) (hu.resetIn.trans hr) hu.answers
    rw [hu.cfg] at ht
    have run := hu.trans ht
    rw [Nat.add_comm] at run
    exact ⟨t, run, htp, htl.trans hul⟩

/-! ### The dispatch (42_rx_engine.md R211 to R214) -/

theorem runs_rxCount {w : U32} (hp : s.phase = .rxCount) (hid : s.cmdId = some id) (hr : s.resetIn = [])
    (ha : s.answers = .word w :: more) :
    ∃ t, RunsReceive 1 [⟨.memRead32 (s.cfg.rxXferSizeReg id), .word w⟩] more s t ∧ t.phase = .rxClear ∧
      t.rxCount = some w ∧ t.life = s.life :=
  ⟨_, { toRuns := .of_stepPhase (by simp [hp]) hr (stepPhase_of_rxCount hp hid (answerTo_of_cons ha))
          (answers := congrArg List.tail ha) }, rfl, rfl, rfl⟩

theorem runs_rxClear {handler : Bool} (hp : s.phase = .rxClear) (hid : s.cmdId = some id)
    (hh : s.cmdHandler = some handler) (hr : s.resetIn = []) :
    ∃ t, RunsReceive 1 [⟨.memWrite32 (s.cfg.eomWordAddr id) (eomNormalMask id), .nothing⟩] s.answers s t ∧
      t.phase = (if handler then .rxHandler else .armAddr) ∧ t.rxCount = s.rxCount ∧ t.life = s.life :=
  ⟨_, { toRuns := .of_stepPhase (by simp [hp]) hr (stepPhase_of_rxClear hp hid hh) }, rfl, rfl, rfl⟩

theorem runs_rxHandler {count rc : U32} (hp : s.phase = .rxHandler) (hid : s.cmdId = some id)
    (hcount : s.rxCount = some count) (hr : s.resetIn = []) (ha : s.answers = .handlerReturn rc :: more) :
    ∃ t, RunsReceive 1 [⟨.handlerCall id (s.cfg.rxBuf id) count, .handlerReturn rc⟩] more s t ∧
      t.phase = .armAddr ∧ t.rxRc = some rc ∧ t.life = s.life :=
  ⟨_, { toRuns := .of_stepPhase (by simp [hp]) hr (stepPhase_of_rxHandler hp hid hcount (answerTo_of_cons ha))
          (answers := congrArg List.tail ha) }, rfl, rfl, rfl⟩

theorem runs_armAddr (hp : s.phase = .armAddr) (hid : s.cmdId = some id) (hr : s.resetIn = []) :
    ∃ t, RunsReceive 1 [⟨.memWrite32 (s.cfg.rxBufAddrReg id) (s.cfg.rxBuf id), .nothing⟩] s.answers s t ∧
      t.phase = .armPause ∧ t.rxRc = s.rxRc ∧ t.life = s.life :=
  ⟨_, { toRuns := .of_stepPhase (by simp [hp]) hr (stepPhase_of_armAddr hp hid) }, rfl, rfl, rfl⟩

/-- The dispatch of a frame to a handler, up to the last transaction of the re-arm. -/
theorem runs_dispatch {count hrc : U32} (hp : s.phase = .rxCount) (hid : s.cmdId = some id)
    (hh : s.cmdHandler = some true) (hr : s.resetIn = [])
    (ha : s.answers = .word count :: .handlerReturn hrc :: more) :
    ∃ t, RunsReceive 4
        [ ⟨.memRead32 (s.cfg.rxXferSizeReg id), .word count⟩,
          ⟨.memWrite32 (s.cfg.eomWordAddr id) (eomNormalMask id), .nothing⟩,
          ⟨.handlerCall id (s.cfg.rxBuf id) count, .handlerReturn hrc⟩,
          ⟨.memWrite32 (s.cfg.rxBufAddrReg id) (s.cfg.rxBuf id), .nothing⟩ ] more s t ∧
      t.phase = .armPause ∧ t.rxRc = some hrc ∧ t.life = s.life := by
  obtain ⟨u, hu, hup, huc, hul⟩ := runs_rxCount hp hid hr ha
  obtain ⟨v, hv, hvp, hvc, hvl⟩ :=
    runs_rxClear hup (hu.cmdId.trans hid) (hu.cmdHandler.trans hh) (hu.resetIn.trans hr)
  have huv := hu.trans hv
  obtain ⟨x, hx, hxp, hxrc, hxl⟩ := runs_rxHandler hvp (huv.cmdId.trans hid) (hvc.trans huc)
    (huv.resetIn.trans hr) (hv.answers.trans hu.answers)
  have hux := huv.trans hx
  obtain ⟨t, ht, htp, htrc, htl⟩ := runs_armAddr hxp (hux.cmdId.trans hid) (hux.resetIn.trans hr)
  have run := hux.trans ht
  rw [hux.cfg, huv.cfg, hu.cfg, hux.answers] at run
  exact ⟨t, run, htp, htrc.trans hxrc, htl.trans (hxl.trans (hvl.trans hul))⟩

end

end Sys2Proof.Machine

open Sys2Proof Sys2Proof.Machine

/-- Settles O57: the cycles are a run within RECEIVE, by induction on their number. -/
theorem blockingReceiveHasNoBound : Obligations.BlockingReceiveHasNoBound := by
  intro s id cycles more hp hid hb hr hclear ha
  obtain ⟨t, ht, htp, htl⟩ := runs_cycles_repeat hclear hp hid hb hr ha
  refine ⟨t, ht.steps, htp, ht.done, htl, ht.answers, ?_⟩
  rw [ht.history, List.length_append, length_flatMap_pollRecords]

/-- Settles O54: a poll cycle, the dispatch, and the last transaction of the re-arm, which completes RECEIVE. -/
theorem dispatchRunsToCompletion : Obligations.DispatchRunsToCompletion := by
  intro s id blocking eomw eotw count hrc more rest hi hr hq hrange herror heot hnormal ha
  have hc : passesChecks s.cfg (.receive blocking true id) = true := by
    simp [passesChecks, Instr.takesId, Instr.id, Instr.len, hrange]
  rw [runSteps_of_accepted _ hi hr hq rfl hc]
  have hop := started_cmdOp { s with requests := rest } (.receive blocking true id)
  have hid := started_cmdId { s with requests := rest } (.receive blocking true id)
  have hh := started_cmdHandler { s with requests := rest } (.receive blocking true id)
  obtain ⟨u, hu, hup, hul⟩ := runs_cycle (w := (eomw, eotw)) herror heot (.inl hnormal) rfl hid
    (started_cmdBlocking ..) hr ha
  rw [if_pos hnormal] at hup hul
  obtain ⟨v, hv, hvp, hvrc, hvl⟩ := runs_dispatch hup (hu.cmdId.trans hid) (hu.cmdHandler.trans hh)
    (hu.resetIn.trans hr) hu.answers
  have huv := hu.trans hv
  have hstep := stepPhase_of_armPause hvp (huv.cmdId.trans hid) (huv.cmdOp.trans hop)
    (.inr (.inr ⟨rfl, huv.cmdHandler.trans hh, hvrc⟩)) huv.lastAttrRc huv.lastAttrSt
  have run := huv.toRuns.trans (.of_stepPhase (by simp [hvp]) (huv.resetIn.trans hr) hstep)
  rw [huv.cfg, hu.cfg, huv.answers] at run
  exact ⟨_, run.steps, rfl, rfl, rfl, rfl, run.requests, run.answers,
    congrArg (List.set · id.toNat Lifecycle.armed) (hvl.trans hul), run.history⟩

end

section
/-! The transaction of each phase of SEND as an equation: from the registers to the next state (43_tx_engine.md R242,
R243). Neither asks for an answer (R244). -/

namespace Sys2Proof.Machine

open Sys2Proof

variable {s : State} {id : U16}

theorem stepPhase_of_txCopy {len k : U32} {data : List U8} {b : U8} (hp : s.phase = .txCopy)
    (hid : s.cmdId = some id) (hlen : s.cmdLen = some len) (hk : s.k = some k) (hdata : s.cmdData = some data)
    (hb : data[k.toNat]? = some b) :
    stepPhase s = .next { s with
      history := s.history ++ [⟨.memWrite8 (s.cfg.txBuf id + k) b, .nothing⟩]
      k := some (k + 1)
      phase := if (k + 1).toNat < len.toNat then .txCopy else .txEom } := by
  have hphase : stepPhase s = txCopy s := by rw [stepPhase, hp]
  exact hphase.trans (txCopy_eq_next.2 ⟨id, len, k, data, b, hid, hlen, hk, hdata, hb, rfl⟩)

theorem stepPhase_of_txEom {rc st : U32} (hp : s.phase = .txEom) (hid : s.cmdId = some id)
    (hrc : s.lastAttrRc = some rc) (hst : s.lastAttrSt = some st) :
    stepPhase s = .next { s with
      history := s.history ++ [⟨.memWrite8 (s.cfg.txEom id) s.cfg.eomTriggerValue, .nothing⟩]
      rspKind := 0
      rspValue := 0
      rspAttrRc := rc
      rspAttrStatus := st
      rspFailId := 0
      done := true
      phase := .idle } := by
  have hphase : stepPhase s = txEom s := by rw [stepPhase, hp]
  exact hphase.trans (txEom_eq_next.2 ⟨id, hid, complete_of_held hrc hst⟩)

end Sys2Proof.Machine

open Sys2Proof Sys2Proof.Machine

/-- Settles O28: the write of TX_COPY. -/
theorem byteCopied : Obligations.ByteCopied := by
  intro s id cid len n k data ds b hp hid hlen hk hdata hb
  rw [exec_of_busy _ (by simp [hp])]
  exact stepPhase_of_txCopy hp hid hlen hk hdata hb

/-- Settles O29: the write of TX_EOM, with `complete`. -/
theorem endOfMessageSignalled : Obligations.EndOfMessageSignalled := by
  intro s id cid n ds rc st hp hid hrc hst
  rw [exec_of_busy _ (by simp [hp])]
  exact stepPhase_of_txEom hp hid hrc hst

end

section
/-! The phases that write bytes (43_tx_engine.md R246). -/

namespace Sys2Proof.Machine

open Sys2Proof

/-- Every other phase accesses 32 bits of memory or is no memory access (10_state.md R36). -/
theorem phase_of_phaseTxn_memWrite8 {s : State} {a : U32} {v : U8} (hq : s.phaseTxn = some (.memWrite8 a v)) :
    s.phase = .txCopy ∨ s.phase = .txEom := by
  cases hp : s.phase
  case txCopy => exact .inl rfl
  case txEom => exact .inr rfl
  all_goals simp [State.phaseTxn, State.pendingQuestion, hp] at hq

end Sys2Proof.Machine

open Sys2Proof Sys2Proof.Machine

/-- Settles O60: a step that appends a record is the transaction of PHASE, as an accept step and a wait append none. -/
theorem onlySendWritesBytes : Obligations.OnlySendWritesBytes := by
  intro s t a v ans hn h ht
  have appends : t.history ≠ s.history := by simp [ht]
  have busy : s.phase ≠ .idle := fun hi => appends (history_of_step_of_idle hi hn h)
  obtain ⟨-, rfl⟩ | ⟨-, q, b, hq, ht'⟩ := stepPhase_waits_or_performs (step_of_busy busy hn ▸ h)
  · exact absurd rfl appends
  · obtain ⟨rfl, -⟩ : q = .memWrite8 a v ∧ b = ans := by simpa using ht'.symm.trans ht
    exact (phase_of_phaseTxn_memWrite8 hq :)

end

section
/-! SEND as a whole run: the byte copy, then the EOM trigger (43_tx_engine.md R240 to R243, 70_reset_and_hazards.md
R352). -/

namespace Sys2Proof.Machine

open Sys2Proof

theorem started_cmdLen (s : State) (i : Instr) : (s.started i).cmdLen = some i.len :=
  congrArg State.cmdLen (latch_encode i s)

theorem started_cmdData (s : State) (i : Instr) : (s.started i).cmdData = some i.data :=
  congrArg State.cmdData (latch_encode i s)

/-- SEND to the CPort `id` has copied the first `n` bytes of `data`: K holds `n`, and the next transaction is the copy
of byte `n` or, past the last byte, the EOM trigger (43_tx_engine.md R242, R245). -/
structure AtByte (id : U16) (data : List U8) (n : Nat) (s : State) : Prop where
  phase : s.phase = if n < data.length then .txCopy else .txEom
  cmdId : s.cmdId = some id
  cmdLen : ∃ len, s.cmdLen = some len ∧ len.toNat = data.length
  cmdData : s.cmdData = some data
  k : s.k = some (BitVec.ofNat 32 n)
  lastAttrRc : s.lastAttrRc = some 0
  lastAttrSt : s.lastAttrSt = some 0
  resetIn : s.resetIn = []

theorem atByte_started {s : State} {id : U16} {len : U32} {data : List U8} (hlen : len.toNat = data.length)
    (hr : s.resetIn = []) : AtByte id data 0 (s.started (.send id len data)) where
  phase := by rw [← hlen]; rfl
  cmdId := started_cmdId ..
  cmdLen := ⟨len, started_cmdLen .., hlen⟩
  cmdData := started_cmdData ..
  k := rfl
  lastAttrRc := rfl
  lastAttrSt := rfl
  resetIn := hr

section

variable {s : State} {id : U16} {data : List U8} {n : Nat}

/-- K counts without wrapping, since CMD_LEN is below 2^32. -/
theorem runs_txCopy {b : U8} (hs : AtByte id data n s) (hb : data[n]? = some b) :
    ∃ t, Runs 1 [⟨.memWrite8 (s.cfg.txBuf id + BitVec.ofNat 32 n) b, .nothing⟩] s.answers s t ∧
      AtByte id data (n + 1) t ∧ t.life = s.life := by
  obtain ⟨hn, -⟩ := List.getElem?_eq_some_iff.1 hb
  have hp : s.phase = .txCopy := hs.phase.trans (if_pos hn)
  obtain ⟨len, hlen, hlength⟩ := hs.cmdLen
  have hk : (BitVec.ofNat 32 n).toNat = n := toNat_ofNat_of_lt (by omega)
  have hk' : (BitVec.ofNat 32 n + 1).toNat = n + 1 := by bv_omega
  have hstep := stepPhase_of_txCopy hp hs.cmdId hlen hs.k hs.cmdData (hk.symm ▸ hb)
  rw [hk', hlength] at hstep
  exact ⟨_, .of_stepPhase (by simp [hp]) hs.resetIn hstep,
    { hs with phase := rfl, k := congrArg some (BitVec.ofNat_add ..).symm }, rfl⟩

/-- The bytes left to copy, by induction on them (43_tx_engine.md R242). -/
theorem runs_copy {left : List U8} (hs : AtByte id data n s) (hleft : data.drop n = left) :
    ∃ t, Runs left.length (copyRecords (s.cfg.txBuf id) n left) s.answers s t ∧
      AtByte id data (n + left.length) t ∧ t.life = s.life := by
  induction left generalizing s n with
  | nil => exact ⟨s, .nil rfl, hs, rfl⟩
  | cons b left ih =>
    have hb : data[n]? = some b := by rw [← List.head?_drop, hleft, List.head?_cons]
    have hrest : data.drop (n + 1) = left := by rw [← List.tail_drop, hleft, List.tail_cons]
    obtain ⟨u, hu, hun, hul⟩ := runs_txCopy hs hb
    obtain ⟨t, ht, htn, htl⟩ := ih hun hrest
    rw [hu.cfg, hu.answers] at ht
    have count : n + 1 + left.length = n + (b :: left).length := by rw [List.length_cons]; omega
    have run := hu.trans ht
    rw [Nat.add_comm] at run
    exact ⟨t, run, count ▸ htn, htl.trans hul⟩

end

end Sys2Proof.Machine

open Sys2Proof Sys2Proof.Machine

/-- Settles O50: the byte copy from byte 0 on, and then the EOM trigger, which completes SEND. -/
theorem sendRunsToCompletion : Obligations.SendRunsToCompletion := by
  intro s id len data rest hi hr hq hlen hrange hfits
  have hw : (Instr.send id len data).wellFormed = true := by simp [Instr.wellFormed, hlen]
  have hc : passesChecks s.cfg (.send id len data) = true := by
    simp [passesChecks, Instr.id, Instr.len, hrange, hlen, hfits]
  rw [runSteps_of_accepted _ hi hr hq hw hc]
  have hs := atByte_started (s := { s with requests := rest }) (id := id) hlen hr
  obtain ⟨u, hu, hun, hul⟩ := runs_copy hs List.drop_zero
  have hp : u.phase = .txEom := hun.phase.trans (if_neg (by omega))
  have hstep := stepPhase_of_txEom hp hun.cmdId hun.lastAttrRc hun.lastAttrSt
  have run := hu.trans (.of_stepPhase (by simp [hp]) hun.resetIn hstep)
  rw [hu.cfg, hu.answers] at run
  exact ⟨_, run.steps, rfl, rfl, rfl, rfl, run.requests, run.answers, hul,
    run.history.trans (List.append_assoc ..).symm⟩

end

section
/-! The transaction of each phase of RECV_CPORT as an equation: from the registers and the answer to the next state
(44_assignment.md R261 to R265). A phase ends the command with the attribute answers that are held. -/

namespace Sys2Proof.Machine

open Sys2Proof

variable {s : State} {v st rc₀ st₀ : U32}

/-! ### MB_READ (44_assignment.md R261 to R263) -/

theorem stepPhase_of_mbRead_failed (hp : s.phase = .mbRead) (hrc : s.lastAttrRc = some rc₀)
    (hst : s.lastAttrSt = some st₀) (ha : s.answerTo .mbxRead = .mbxValue v st) (hfail : st ≠ 0) :
    stepPhase s =
      .next ({ s.asked .mbxRead with mbValue := some v }.completed .mailboxError st 0 rc₀ st₀) := by
  have hphase : stepPhase s = mbReadPhase s := by rw [stepPhase, hp]
  exact hphase.trans (mbReadPhase_eq_next.2 (.inr ⟨v, st, ha, .inl ⟨hfail, complete_of_held hrc hst⟩⟩))

/-- Nothing is acknowledged: the only record is that of the read (44_assignment.md R263). -/
theorem stepPhase_of_mbRead_outOfRange (hp : s.phase = .mbRead) (hrc : s.lastAttrRc = some rc₀)
    (hst : s.lastAttrSt = some st₀) (ha : s.answerTo .mbxRead = .mbxValue v 0)
    (hrange : s.cfg.cportMax ≤ (mailboxId v).toNat) :
    stepPhase s =
      .next ({ s.asked .mbxRead with mbValue := some v }.completed .invalidArgument 0 0 rc₀ st₀) := by
  have hphase : stepPhase s = mbReadPhase s := by rw [stepPhase, hp]
  exact hphase.trans
    (mbReadPhase_eq_next.2 (.inr ⟨v, 0, ha, .inr (.inl ⟨rfl, hrange, complete_of_held hrc hst⟩)⟩))

theorem stepPhase_of_mbRead_inRange (hp : s.phase = .mbRead) (ha : s.answerTo .mbxRead = .mbxValue v 0)
    (hrange : (mailboxId v).toNat < s.cfg.cportMax) :
    stepPhase s = .next { s.asked .mbxRead with mbValue := some v, phase := .mbAck } := by
  have hphase : stepPhase s = mbReadPhase s := by rw [stepPhase, hp]
  exact hphase.trans (mbReadPhase_eq_next.2 (.inr ⟨v, 0, ha, .inr (.inr ⟨rfl, hrange, rfl⟩)⟩))

/-! ### MB_ACK (44_assignment.md R264, R265) -/

theorem stepPhase_of_mbAck_failed (hp : s.phase = .mbAck) (hv : s.mbValue = some v)
    (hrc : s.lastAttrRc = some rc₀) (hst : s.lastAttrSt = some st₀)
    (ha : s.answerTo (.mbxAck (v.setWidth 16)) = .mbxStatus st)
    (hfail : s.cfg.ackStatusChecked = true ∧ st ≠ 0) :
    stepPhase s =
      .next ((s.asked (.mbxAck (v.setWidth 16))).completed .mailboxError st 0 rc₀ st₀) := by
  have hphase : stepPhase s = mbAckPhase s := by rw [stepPhase, hp]
  obtain ⟨hchecked, hstatus⟩ := hfail
  exact hphase.trans (mbAckPhase_eq_next.2
    ⟨v, hv, .inr ⟨st, ha, .inl ⟨hchecked, hstatus, complete_of_held hrc hst⟩⟩⟩)

/-- The status is 0, or the configuration does not look at it (44_assignment.md R265). -/
theorem stepPhase_of_mbAck_ok (hp : s.phase = .mbAck) (hv : s.mbValue = some v)
    (hrc : s.lastAttrRc = some rc₀) (hst : s.lastAttrSt = some st₀)
    (ha : s.answerTo (.mbxAck (v.setWidth 16)) = .mbxStatus st)
    (hok : s.cfg.ackStatusChecked = true → st = 0) :
    stepPhase s =
      .next ((s.asked (.mbxAck (v.setWidth 16))).completed .ok (mailboxId v) 0 rc₀ st₀) := by
  have hphase : stepPhase s = mbAckPhase s := by rw [stepPhase, hp]
  exact hphase.trans
    (mbAckPhase_eq_next.2 ⟨v, hv, .inr ⟨st, ha, .inr ⟨hok, complete_of_held hrc hst⟩⟩⟩)

end Sys2Proof.Machine

open Sys2Proof Sys2Proof.Machine

/-- Settles O30: a failed read, then an id out of range, then an id to acknowledge. -/
theorem mailboxRead : Obligations.MailboxRead := by
  rintro s _ v st rc₀ st₀ hp hrc hst ha rfl
  rw [exec_of_busy _ (by simp [hp])]
  by_cases hfail : st ≠ 0
  · rw [if_pos hfail, stepPhase_of_mbRead_failed hp hrc hst ha hfail, asked_of_answerTo ha]
    rfl
  · obtain rfl : st = 0 := not_not.1 hfail
    rw [if_neg hfail]
    by_cases hrange : s.cfg.cportMax ≤ (v - 1).toNat
    · rw [if_pos hrange, stepPhase_of_mbRead_outOfRange hp hrc hst ha hrange, asked_of_answerTo ha]
      rfl
    · rw [if_neg hrange, stepPhase_of_mbRead_inRange hp ha (not_le.1 hrange), asked_of_answerTo ha]

/-- Settles O31: the acknowledgment of MB_ACK, with `complete` and each of the two results. -/
theorem mailboxAcknowledged : Obligations.MailboxAcknowledged := by
  rintro s _ v ast rc₀ st₀ hp hv hrc hst ha rfl
  rw [exec_of_busy _ (by simp [hp])]
  by_cases hfail : s.cfg.ackStatusChecked = true ∧ ast ≠ 0
  · rw [if_pos hfail, stepPhase_of_mbAck_failed hp hv hrc hst ha hfail, asked_of_answerTo ha]
    rfl
  · have hok : s.cfg.ackStatusChecked = true → ast = 0 := fun hc => not_not.1 (not_and.1 hfail hc)
    rw [if_neg hfail, stepPhase_of_mbAck_ok hp hv hrc hst ha hok, asked_of_answerTo ha]
    rfl

end

section
/-! The transaction of each phase of WAIT_LINK_UP and PREPARE_READINESS as an equation: from the registers and the
answer to the next state (45_link_flow_control.md R281, R282, R285, R286). -/

namespace Sys2Proof.Machine

open Sys2Proof

variable {s : State} {v rc st : U32}

/-! ### LK_POLL (45_link_flow_control.md R281, R282) -/

/-- The attribute answers that the command publishes are those of the read itself. -/
theorem stepPhase_of_lkPoll_up (hp : s.phase = .lkPoll)
    (ha : s.answerTo (.attrRead s.cfg.attrPowerstate s.cfg.powerstateSelector false) = .attrValue v rc st)
    (hup : st = 0 ∧ v = s.cfg.linkUpValue) :
    stepPhase s = .next
      ((s.attrAsked (.attrRead s.cfg.attrPowerstate s.cfg.powerstateSelector false) rc st).completed
        .ok 0 0 rc st) := by
  have hphase : stepPhase s = lkPoll s := by rw [stepPhase, hp]
  obtain ⟨hst, hv⟩ := hup
  exact hphase.trans
    (lkPoll_eq_next.2 (.inr ⟨v, rc, st, ha, .inl ⟨hst, hv, complete_of_held rfl rfl⟩⟩))

/-- Another value, or a failed read whatever its value, and the engine stays in LK_POLL. -/
theorem stepPhase_of_lkPoll_notYet (hp : s.phase = .lkPoll)
    (ha : s.answerTo (.attrRead s.cfg.attrPowerstate s.cfg.powerstateSelector false) = .attrValue v rc st)
    (hdown : ¬ (st = 0 ∧ v = s.cfg.linkUpValue)) :
    stepPhase s = .next
      (s.attrAsked (.attrRead s.cfg.attrPowerstate s.cfg.powerstateSelector false) rc st) := by
  have hphase : stepPhase s = lkPoll s := by rw [stepPhase, hp]
  exact hphase.trans (lkPoll_eq_next.2 (.inr ⟨v, rc, st, ha, .inr ⟨not_and.1 hdown, rfl⟩⟩))

/-! ### FC_EN0 and FC_EN1 (45_link_flow_control.md R285, R286) -/

theorem stepPhase_of_fcEn0 (hp : s.phase = .fcEn0) :
    stepPhase s = .next { s.wrote (.memWrite32 s.cfg.regE2efcEn0 0) with phase := .fcEn1 } := by
  have hphase : stepPhase s = fcEn0 s := by rw [stepPhase, hp]
  exact hphase.trans (fcEn0_eq_next.2 rfl)

theorem stepPhase_of_fcEn1 (hp : s.phase = .fcEn1) (hrc : s.lastAttrRc = some rc)
    (hst : s.lastAttrSt = some st) :
    stepPhase s = .next ((s.wrote (.memWrite32 s.cfg.regE2efcEn1 0)).completed .ok 0 0 rc st) := by
  have hphase : stepPhase s = fcEn1 s := by rw [stepPhase, hp]
  exact hphase.trans (fcEn1_eq_next.2 (complete_of_held hrc hst))

end Sys2Proof.Machine

open Sys2Proof Sys2Proof.Machine

/-- Settles O32: a read that sees the link up, with `complete`, and any other read. -/
theorem linkPolled : Obligations.LinkPolled := by
  rintro s _ v rc st hp ha rfl
  rw [exec_of_busy _ (by simp [hp])]
  by_cases hup : st = 0 ∧ v = s.cfg.linkUpValue
  · rw [if_pos hup, stepPhase_of_lkPoll_up hp ha hup, State.attrAsked, asked_of_answerTo ha]
    rfl
  · rw [if_neg hup, stepPhase_of_lkPoll_notYet hp ha hup, State.attrAsked, asked_of_answerTo ha]

/-- Settles O33: the write of FC_EN0. -/
theorem firstEnableRegisterCleared : Obligations.FirstEnableRegisterCleared := by
  intro s hp
  rw [exec_of_busy _ (by simp [hp])]
  exact stepPhase_of_fcEn0 hp

/-- Settles O34: the write of FC_EN1, with `complete`. -/
theorem secondEnableRegisterCleared : Obligations.SecondEnableRegisterCleared := by
  intro s rc st hp hrc hst
  rw [exec_of_busy _ (by simp [hp])]
  exact stepPhase_of_fcEn1 hp hrc hst

end

section
/-! WAIT_LINK_UP as a whole run: the reads that do not see the link up, then the one that does
(45_link_flow_control.md R280 to R283, 70_reset_and_hazards.md R352). -/

namespace Sys2Proof.Machine

open Sys2Proof

variable {s : State} {more : List Answer}

/-- The answer of a power-state read: value, result code and transport status. -/
def linkAnswer (a : U32 × U32 × U32) : Answer := .attrValue a.1 a.2.1 a.2.2

/-- The record of a power-state read (45_link_flow_control.md R281). -/
def linkRecord (c : Config) (a : U32 × U32 × U32) : Event :=
  ⟨.attrRead c.attrPowerstate c.powerstateSelector false, linkAnswer a⟩

theorem history_of_linkAnswer {a : U32 × U32 × U32} (ha : s.answers = linkAnswer a :: more) :
    (s.asked (.attrRead s.cfg.attrPowerstate s.cfg.powerstateSelector false)).history =
      s.history ++ [linkRecord s.cfg a] := by
  rw [State.asked_history, answerTo_of_cons ha, linkRecord]

/-- One read that does not see the link up leads back to LK_POLL (45_link_flow_control.md R282). -/
theorem runs_lkPoll_notYet {a : U32 × U32 × U32} (hdown : ¬ (a.2.2 = 0 ∧ a.1 = s.cfg.linkUpValue))
    (hp : s.phase = .lkPoll) (hr : s.resetIn = []) (ha : s.answers = linkAnswer a :: more) :
    ∃ t, Runs 1 [linkRecord s.cfg a] more s t ∧ t.phase = .lkPoll :=
  ⟨_, .of_stepPhase (by simp [hp]) hr (stepPhase_of_lkPoll_notYet hp (answerTo_of_cons ha) hdown)
    (history_of_linkAnswer ha) (congrArg List.tail ha), hp⟩

/-- A successful read of the sentinel completes WAIT_LINK_UP (45_link_flow_control.md R281). -/
theorem runs_lkPoll_up {rc : U32} (hp : s.phase = .lkPoll) (hr : s.resetIn = [])
    (ha : s.answers = linkAnswer (s.cfg.linkUpValue, rc, 0) :: more) :
    ∃ t, Runs 1 [linkRecord s.cfg (s.cfg.linkUpValue, rc, 0)] more s t ∧ t.phase = .idle ∧ t.done = true ∧
      t.rspKind = 0 ∧ t.rspValue = 0 ∧ t.rspAttrRc = rc ∧ t.rspAttrStatus = 0 :=
  ⟨_, .of_stepPhase (by simp [hp]) hr (stepPhase_of_lkPoll_up hp (answerTo_of_cons ha) ⟨rfl, rfl⟩)
    (history_of_linkAnswer ha) (congrArg List.tail ha), rfl, rfl, rfl, rfl, rfl, rfl⟩

/-- Any number of reads that do not see the link up: the wait has no bound (45_link_flow_control.md R283). -/
theorem runs_linkDown {vs : List (U32 × U32 × U32)}
    (hdown : ∀ a ∈ vs, ¬ (a.2.2 = 0 ∧ a.1 = s.cfg.linkUpValue)) (hp : s.phase = .lkPoll)
    (hr : s.resetIn = []) (ha : s.answers = vs.map linkAnswer ++ more) :
    ∃ t, Runs vs.length (vs.map (linkRecord s.cfg)) more s t ∧ t.phase = .lkPoll := by
  induction vs generalizing s with
  | nil => exact ⟨s, .nil ha, hp⟩
  | cons a vs ih =>
    obtain ⟨hfirst, hrest⟩ := List.forall_mem_cons.1 hdown
    obtain ⟨u, hu, hup⟩ := runs_lkPoll_notYet hfirst hp hr ha
    rw [← hu.cfg] at hrest
    obtain ⟨t, ht, htp⟩ := ih hrest hup (hu.resetIn.trans hr) hu.answers
    rw [hu.cfg] at ht
    have run := hu.trans ht
    rw [Nat.add_comm] at run
    exact ⟨t, run, htp⟩

end Sys2Proof.Machine

open Sys2Proof Sys2Proof.Machine

/-- Settles O55: the reads that do not see the link up, by induction on their number, and then the read that does,
which completes WAIT_LINK_UP. -/
theorem linkWaitRunsToCompletion : Obligations.LinkWaitRunsToCompletion := by
  intro s vs rc more rest hi hr hq hdown ha
  rw [runSteps_of_accepted _ hi hr hq rfl (passesChecks_of_noOperands rfl rfl)]
  obtain ⟨u, hu, hup⟩ := runs_linkDown (s := { s with requests := rest }.started .waitLinkUp) hdown rfl hr ha
  have hcfg : u.cfg = s.cfg := hu.cfg
  obtain ⟨t, ht, htp, hdone, hkind, hvalue, hrc, hst⟩ :=
    runs_lkPoll_up hup (hu.resetIn.trans hr) (hcfg.symm ▸ hu.answers)
  have run := hu.trans ht
  refine ⟨t, run.steps, htp, hdone, hkind, hvalue, hrc, hst, run.requests, run.answers, ?_⟩
  rw [run.history, List.length_append, List.length_append, List.length_map]
  rfl

end

section
/-! The reset event as a step (70_reset_and_hazards.md R330, R331, R333). -/

namespace Sys2Proof.Machine

open Sys2Proof

/-- The levels of the reset input are the host's: the reset event neither looks at them nor changes them. -/
theorem engineReset_withResetIn (s : State) (levels : List Bool) :
    { s with resetIn := levels }.engineReset = { s.engineReset with resetIn := levels } := rfl

end Sys2Proof.Machine

open Sys2Proof Sys2Proof.Machine

/-- Settles O42: the step is the reset event, whatever PHASE is, and it leaves the levels after the asserted one as
they are. -/
theorem resetEventAbandonsCommand : Obligations.ResetEventAbandonsCommand := by
  intro s rest h
  calc step s
    _ = .next { s with resetIn := rest }.engineReset := step_of_reset h
    _ = .next { s.engineReset with resetIn := rest } := by rw [engineReset_withResetIn]

end
